-- ==== Sys2Proof/Word.lean ====
section
/-! DEFINITION. The value types of the touch-panel polling block: bytes, coordinates, event words, status packets, the
answers of the two bus transfers and the decoder's events (00_scope.md R6 to R8). -/

namespace Sys2Proof

/-- A byte: 8 bits, bit 7 the most significant (R6). -/
abbrev Byte := BitVec 8

/-- A coordinate: 12 bits, unsigned (R4 COORD_BITS, R30). -/
abbrev Coord := BitVec 12

/-- An event word: 32 bits, unsigned (R46). -/
abbrev EventWord := BitVec 32

/-- A status packet: 7 bytes, `p0` the first byte the read transfer delivers (R6, R30, R45). -/
structure Packet where
  p0 : Byte
  p1 : Byte
  p2 : Byte
  p3 : Byte
  p4 : Byte
  p5 : Byte
  p6 : Byte
  deriving DecidableEq, Repr, Inhabited

/-- Seven zero bytes, the reset value of PREV (R22). -/
def Packet.zero : Packet := ⟨0, 0, 0, 0, 0, 0, 0⟩

/-- The 18 bits of a packet that the decoder ignores and the filter compares (R45, R50). -/
structure IgnoredBits where
  b0    : Byte
  b2hi  : BitVec 4
  b3mid : BitVec 2
  b5hi  : BitVec 4
  deriving DecidableEq, Repr, Inhabited

/-- The answer to a write transfer (R27). -/
inductive WriteAnswer where
  | ok
  | fail
  deriving DecidableEq, Repr, Inhabited

/-- The answer to a read transfer: all 7 bytes or a failure, never a short read (R28). -/
inductive ReadAnswer where
  | ok (p : Packet)
  | fail
  deriving DecidableEq, Repr, Inhabited

/-- The type NormalizedEvent (R7, R8): the decoder's result. -/
inductive NormalizedEvent where
  | noEvent
  | startAt (x y : Coord)
  | moveAt (x y : Coord)
  | endAt (x y : Coord)
  deriving DecidableEq, Repr, Inhabited

/-- The kind of an event, `kind_of` of R48: None, Start, Move, End. -/
inductive EventKind where
  | noneKind
  | startKind
  | moveKind
  | endKind
  deriving DecidableEq, Repr, Inhabited

/-- The kind of a decoder result (R86). -/
def NormalizedEvent.kind : NormalizedEvent → EventKind
  | .noEvent => .noneKind
  | .startAt _ _ => .startKind
  | .moveAt _ _ => .moveKind
  | .endAt _ _ => .endKind

end Sys2Proof
end

