-- ==== Sys2Proof/Config.lean ====
section
/-! DEFINITION. The parameters of the block (00_scope.md R4): the values the document fixes, the values the spec decided
(named constants), and the open ones, which are constants with no body. Last, the free values: what the environment
answers once a script of answers is used up (20_memory.md R39). -/

namespace Sys2Proof.Config

/-! Fixed by the document (R4). -/

/-- PACKET_LEN: bytes in a status packet. -/
def packetLen : Nat := 7

/-- REG_SELECT: the one data byte of the register-select write. -/
def regSelect : Byte := 0x00#8

/-- PHASE_PRESS_DOWN, the masked byte `p[3] & 0xC0` (R47). -/
def phasePressDown : Byte := 0x00#8

/-- PHASE_CONTACT. -/
def phaseContact : Byte := 0x80#8

/-- PHASE_LIFT_UP. -/
def phaseLiftUp : Byte := 0x40#8

/-- PHASE_NO_EVENT. -/
def phaseNoEvent : Byte := 0xC0#8

/-- COUNT_INVALID: the touch-point count "no touch yet"; no rule tests for it (R136). -/
def countInvalid : Byte := 0x0F#8

/-- RESET_ASSERT_MIN in milliseconds; it belongs to the initialisation collaborator (R128, R138). -/
def resetAssertMinMs : Nat := 5

/-- RESET_SETTLE_MIN in milliseconds; it belongs to the initialisation collaborator (R128, R138). -/
def resetSettleMinMs : Nat := 300

/-! Decided by the spec (R4, 92_eei_decisions.md D2, D5, D6); notes/assumptions 11 and 12. -/

/-- NO_GESTURE (R77, D6). DESIGN CHOICE of the spec, unsafe: notes/assumptions/11.md. -/
def noGesture : Byte := 0x00#8

/-- TAG_START (R46, D5). DESIGN CHOICE of the spec, unsafe: notes/assumptions/12.md. -/
def tagStart : EventWord := 0x01000000#32

/-- TAG_MOVE (R46, D5). -/
def tagMove : EventWord := 0x02000000#32

/-- TAG_END (R46, D5). -/
def tagEnd : EventWord := 0x04000000#32

/-- X_SHIFT (R46, D5). -/
def xShift : Nat := 12

/-- Y_SHIFT (R46, D5). -/
def yShift : Nat := 0

/-- `cmd` code of CMD_NONE (R41, D2). -/
def cmdNone : BitVec 2 := 0b00#2

/-- `cmd` code of READ_EVENT (R41, D2). -/
def cmdReadEvent : BitVec 2 := 0b01#2

/-- `cmd` code of AWAIT_CLICK (R41, D2). -/
def cmdAwaitClick : BitVec 2 := 0b10#2

/-- `cmd` code of CMD_RSVD (R41, D2). -/
def cmdRsvd : BitVec 2 := 0b11#2

/-! Open (R4): no rule depends on the value; notes/assumptions/14.md. -/

/-- TOUCH_ADDRESS (D7): it labels the transfers in the history. -/
opaque touchAddress : Nat

/-- TIME_UNIT (D8). -/
opaque timeUnit : Nat

/-- BUS_FRAMING (D20), owned by the transport. -/
opaque busFraming : Nat

/-- RESET_FORM (D25): the electrical form of the block's reset. -/
opaque resetForm : Nat

/-- BUS_TIMEOUT = 1 × TIME_UNIT (R4, D8); the model has no clock, so it only labels transfers. -/
def busTimeout : Nat := 1 * timeUnit

/-! Free values (R39): the environment's answers past the end of a script; notes/assumptions/2.md. -/

/-- The n-th free answer to a write transfer. -/
opaque freeWriteAnswer : Nat → WriteAnswer

/-- The n-th free answer to a read transfer. -/
opaque freeReadAnswer : Nat → ReadAnswer

end Sys2Proof.Config
end

