-- ==== Sys2Proof/Machine/Operands.lean ====
section
/-! DEFINITION. Every operand form of the block: the fields of a status packet (30_encoding.md R45, R47), the packet as one
56-bit number (00_scope.md R6), the rows of the decision table (42_event_decoder.md R79 to R82), and the assembly of the event
word with its inverse (R46, R48). -/

namespace Sys2Proof

/-! Packets as numbers. -/

/-- `PKT = p[0] ‖ p[1] ‖ … ‖ p[6]` (R6). -/
def Packet.toPkt (p : Packet) : BitVec 56 :=
  (p.p0.setWidth 56 <<< 48) ||| (p.p1.setWidth 56 <<< 40) ||| (p.p2.setWidth 56 <<< 32) |||
    (p.p3.setWidth 56 <<< 24) ||| (p.p4.setWidth 56 <<< 16) ||| (p.p5.setWidth 56 <<< 8) ||| p.p6.setWidth 56

/-- The packet whose 56-bit form is `w` (R6). -/
def Packet.ofPkt (w : BitVec 56) : Packet where
  p0 := w.extractLsb' 48 8
  p1 := w.extractLsb' 40 8
  p2 := w.extractLsb' 32 8
  p3 := w.extractLsb' 24 8
  p4 := w.extractLsb' 16 8
  p5 := w.extractLsb' 8 8
  p6 := w.extractLsb' 0 8

/-! Operand extraction (R47, R78). -/

/-- `gesture = p[1]`. -/
def Packet.gesture (p : Packet) : Byte := p.p1

/-- `points = p[2] & 0x0F`. -/
def Packet.points (p : Packet) : Byte := p.p2 &&& 0x0F#8

/-- `phase = p[3] & 0xC0`, kept in place. -/
def Packet.phase (p : Packet) : Byte := p.p3 &&& 0xC0#8

/-- `x = ((p[3] & 0x0F) << 8) | p[4]`. -/
def Packet.x (p : Packet) : Coord := ((p.p3 &&& 0x0F#8).setWidth 12 <<< 8) ||| p.p4.setWidth 12

/-- `y = ((p[5] & 0x0F) << 8) | p[6]`. -/
def Packet.y (p : Packet) : Coord := ((p.p5 &&& 0x0F#8).setWidth 12 <<< 8) ||| p.p6.setWidth 12

/-- The 18 ignored bits: `b0`, `b2hi`, `b3mid`, `b5hi` (R45, R50). -/
def Packet.ignored (p : Packet) : IgnoredBits where
  b0 := p.p0
  b2hi := p.p2.extractLsb' 4 4
  b3mid := p.p3.extractLsb' 4 2
  b5hi := p.p5.extractLsb' 4 4

/-- The packet with the given fields at the places of R45. -/
def Packet.build (gesture : Byte) (points : BitVec 4) (phase : BitVec 2) (g : IgnoredBits) (x y : Coord) : Packet where
  p0 := g.b0
  p1 := gesture
  p2 := (g.b2hi.setWidth 8 <<< 4) ||| points.setWidth 8
  p3 := (phase.setWidth 8 <<< 6) ||| (g.b3mid.setWidth 8 <<< 4) ||| (x.extractLsb' 8 4).setWidth 8
  p4 := x.extractLsb' 0 8
  p5 := (g.b5hi.setWidth 8 <<< 4) ||| (y.extractLsb' 8 4).setWidth 8
  p6 := y.extractLsb' 0 8

/-! The decision table (R76 to R82). -/

/-- The Start row: points = 1, press-down (R79). -/
def Packet.startRow (p : Packet) : Bool :=
  p.gesture == Config.noGesture && p.points == 1#8 && p.phase == Config.phasePressDown

/-- The Move row: points = 1, contact (R80). -/
def Packet.moveRow (p : Packet) : Bool :=
  p.gesture == Config.noGesture && p.points == 1#8 && p.phase == Config.phaseContact

/-- The End row: points = 0, lift-up (R81). -/
def Packet.endRow (p : Packet) : Bool :=
  p.gesture == Config.noGesture && p.points == 0#8 && p.phase == Config.phaseLiftUp

/-- DECODE's result for a packet: the rows in the document's order, first match wins, else None (R76, R83). -/
def Packet.event (p : Packet) : NormalizedEvent :=
  if p.startRow then .startAt p.x p.y
  else if p.moveRow then .moveAt p.x p.y
  else if p.endRow then .endAt p.x p.y
  else .noEvent

/-- A packet of the Start row with these ignored bits and coordinates (R49 class 2, R79). -/
def startPacket (g : IgnoredBits) (x y : Coord) : Packet :=
  Packet.build Config.noGesture 1#4 (Config.phasePressDown.extractLsb' 6 2) g x y

/-- A packet of the Move row (R49 class 3, R80). -/
def movePacket (g : IgnoredBits) (x y : Coord) : Packet :=
  Packet.build Config.noGesture 1#4 (Config.phaseContact.extractLsb' 6 2) g x y

/-- A packet of the End row (R49 class 4, R81). -/
def endPacket (g : IgnoredBits) (x y : Coord) : Packet :=
  Packet.build Config.noGesture 0#4 (Config.phaseLiftUp.extractLsb' 6 2) g x y

/-- A packet of no row: the count "no touch yet" with the no-event phase (R51, R82). -/
def quietPacket (g : IgnoredBits) : Packet :=
  Packet.build Config.noGesture (Config.countInvalid.extractLsb' 0 4) (Config.phaseNoEvent.extractLsb' 6 2) g 0 0

/-! The event word (R46, R48, R84). -/

/-- The payload: `(zext_32(x) << X_SHIFT) | (zext_32(y) << Y_SHIFT)`. -/
def payload (x y : Coord) : EventWord :=
  (x.setWidth 32 <<< Config.xShift) ||| (y.setWidth 32 <<< Config.yShift)

/-- PACK: the 32-bit word of an event; None is the number 0 (R48, R84). -/
def NormalizedEvent.word : NormalizedEvent → EventWord
  | .noEvent => 0#32
  | .startAt x y => Config.tagStart ||| payload x y
  | .moveAt x y => Config.tagMove ||| payload x y
  | .endAt x y => Config.tagEnd ||| payload x y

/-- `x_of(w) = (w >> X_SHIFT) & 0xFFF` (R48). -/
def xOf (w : EventWord) : Coord := (w >>> Config.xShift).setWidth 12

/-- `y_of(w) = (w >> Y_SHIFT) & 0xFFF` (R48). -/
def yOf (w : EventWord) : Coord := (w >>> Config.yShift).setWidth 12

/-- Bits 31:24 of a word in place: the zero field and the three tag bits (R46). -/
def tagField (w : EventWord) : EventWord := w &&& 0xFF000000#32

end Sys2Proof
end

