-- ==== Sys2Proof/Syntax.lean ====
section
/-! DEFINITION. The operations of the block, this hardware's counterpart of instructions: one constructor per row of
spec/opcode_table.json (30_encoding.md R40, R55). A constructor carries what its row's bits leave open: the packet classes
carry the packet's free bits, the event-word shapes their two coordinates; the others have no operand (R41, R61, R62). -/

namespace Sys2Proof

/-- The 25 rows of the operation table, in the table's order. -/
inductive Instr where
  | cmdNone
  | readEvent
  | awaitClick
  | cmdRsvd
  | busRegsel
  | busRead7
  | pollFrame
  | dupFilter
  | decode
  | pack
  | pktDup
  | evStart (g : IgnoredBits) (x y : Coord)
  | evMove (g : IgnoredBits) (x y : Coord)
  | evEnd (g : IgnoredBits) (x y : Coord)
  | evNone (p : Packet)
  | evwNone
  | evwStart (x y : Coord)
  | evwMove (x y : Coord)
  | evwEnd (x y : Coord)
  | seqIdle
  | seqDrain1
  | seqAwaitStart
  | seqAwaitEnd
  | seqDrain2
  | seqDone
  deriving DecidableEq, Repr

end Sys2Proof
end

