-- ==== Sys2Proof/WellFormed.lean ====
section
/-! DEFINITION. Which operations are well formed while the register PREV holds `prev`. The packet classes are tested in a
fixed order and the first that matches decides (30_encoding.md R49), so a class of lower priority is the class of a packet only
if no class before it takes that packet. Every other operation is well formed. -/

namespace Sys2Proof

/-- The packet is not taken by class 1, PKT_DUP (R49). -/
def notDuplicate (prev p : Packet) : Bool := p != prev

/-- The packet is taken by none of the classes 2 to 4 (R49, R82). -/
def noRow (p : Packet) : Bool := !p.startRow && !p.moveRow && !p.endRow

/-- Well-formedness of an operation relative to PREV. -/
def Instr.wellFormed (prev : Packet) : Instr → Bool
  | .cmdNone => true
  | .readEvent => true
  | .awaitClick => true
  | .cmdRsvd => true
  | .busRegsel => true
  | .busRead7 => true
  | .pollFrame => true
  | .dupFilter => true
  | .decode => true
  | .pack => true
  | .pktDup => true
  | .evStart g x y => notDuplicate prev (startPacket g x y)
  | .evMove g x y => notDuplicate prev (movePacket g x y)
  | .evEnd g x y => notDuplicate prev (endPacket g x y)
  | .evNone p => notDuplicate prev p && noRow p
  | .evwNone => true
  | .evwStart _ _ => true
  | .evwMove _ _ => true
  | .evwEnd _ _ => true
  | .seqIdle => true
  | .seqDrain1 => true
  | .seqAwaitStart => true
  | .seqAwaitEnd => true
  | .seqDrain2 => true
  | .seqDone => true

end Sys2Proof
end

