-- ==== Sys2Proof/Decode.lean ====
section
/-! DEFINITION. The five bit formats of the block and the order of the stages (30_encoding.md R40 to R57): the decoder, total
on every code of every format and rejecting by name, then the encoder, then the words of spec/opcode_table.json. -/

namespace Sys2Proof

/-- The formats of the operation table (R40, R55). -/
inductive Format where
  | cmd
  | bus
  | stage
  | pkt
  | evw
  | seq
  deriving DecidableEq, Repr

/-- The places of a poll's stages in their fixed order; no bit pattern selects a stage (R55, R90). -/
inductive StagePlace where
  | frameReader
  | duplicateSuppressor
  | eventDecoder
  | packer
  deriving DecidableEq, Repr

/-- A code: what stands on one of the block's interfaces or selects an internal operation. -/
inductive Code where
  /-- The 2-bit code on the command port (R41). -/
  | cmd (c : BitVec 2)
  /-- A write transfer with its data bytes (R44). -/
  | busWrite (data : List Byte)
  /-- A read transfer with its length in bytes (R44). -/
  | busRead (length : Nat)
  /-- A place in the order of a poll (R55). -/
  | stage (k : StagePlace)
  /-- The 56 bits of a packet (R45, R49). -/
  | pkt (w : BitVec 56)
  /-- An event word (R46). -/
  | evw (w : EventWord)
  /-- The code of the sequencer state (R57). -/
  | seq (c : BitVec 3)
  deriving DecidableEq, Repr

/-- The format a code belongs to. -/
def Code.format : Code → Format
  | .cmd _ => .cmd
  | .busWrite _ => .bus
  | .busRead _ => .bus
  | .stage _ => .stage
  | .pkt _ => .pkt
  | .evw _ => .evw
  | .seq _ => .seq

/-- Why a code is no operation of the block. -/
inductive Reject where
  /-- A data byte other than the single 0x00 never appears on the transport interface (R26). -/
  | busDataNotRegSelect
  /-- A read length other than 7 never appears on the transport interface (R26). -/
  | busLengthNotSeven
  /-- An event word of a shape the block never produces (R52, U11). -/
  | eventWordShape
  /-- SEQ codes 0b110 and 0b111, which no rule produces (R14, U10). -/
  | seqCodeUnused
  deriving DecidableEq, Repr

/-- The command codes; 0b11 is reserved and has its own row (R41, R53). -/
def decodeCmd (c : BitVec 2) : Instr :=
  if c = Config.cmdReadEvent then .readEvent
  else if c = Config.cmdAwaitClick then .awaitClick
  else if c = Config.cmdRsvd then .cmdRsvd
  else .cmdNone

/-- The stage at a place of the poll (R90). -/
def decodeStage : StagePlace → Instr
  | .frameReader => .pollFrame
  | .duplicateSuppressor => .dupFilter
  | .eventDecoder => .decode
  | .packer => .pack

/-- The classification of a packet: five patterns in order, the first match decides; class 1 depends on PREV (R49). -/
def classify (prev p : Packet) : Instr :=
  if p = prev then .pktDup
  else if p.startRow then .evStart p.ignored p.x p.y
  else if p.moveRow then .evMove p.ignored p.x p.y
  else if p.endRow then .evEnd p.ignored p.x p.y
  else .evNone p

/-- The four shapes of an event word; any other is rejected (R46, R52). -/
def decodeEventWord (w : EventWord) : Except Reject Instr :=
  if w = 0#32 then .ok .evwNone
  else if tagField w = Config.tagStart then .ok (.evwStart (xOf w) (yOf w))
  else if tagField w = Config.tagMove then .ok (.evwMove (xOf w) (yOf w))
  else if tagField w = Config.tagEnd then .ok (.evwEnd (xOf w) (yOf w))
  else .error .eventWordShape

/-- The sequencer step a SEQ code selects (R14, R57). -/
def decodeSeq (c : BitVec 3) : Except Reject Instr :=
  if c = 0b000#3 then .ok .seqIdle
  else if c = 0b001#3 then .ok .seqDrain1
  else if c = 0b010#3 then .ok .seqAwaitStart
  else if c = 0b011#3 then .ok .seqAwaitEnd
  else if c = 0b100#3 then .ok .seqDrain2
  else if c = 0b101#3 then .ok .seqDone
  else .error .seqCodeUnused

/-- The decoder, total: the operation a code stands for while PREV holds `prev`. -/
def decode (prev : Packet) : Code → Except Reject Instr
  | .cmd c => .ok (decodeCmd c)
  | .busWrite data => if data = [Config.regSelect] then .ok .busRegsel else .error .busDataNotRegSelect
  | .busRead n => if n = Config.packetLen then .ok .busRead7 else .error .busLengthNotSeven
  | .stage k => .ok (decodeStage k)
  | .pkt w => .ok (classify prev (Packet.ofPkt w))
  | .evw w => decodeEventWord w
  | .seq c => decodeSeq c

/-- The encoder: the code of an operation while PREV holds `prev` (PKT_DUP's pattern is PREV itself, R49). -/
def encode (prev : Packet) : Instr → Code
  | .cmdNone => .cmd 0b00#2
  | .readEvent => .cmd 0b01#2
  | .awaitClick => .cmd 0b10#2
  | .cmdRsvd => .cmd 0b11#2
  | .busRegsel => .busWrite [0x00#8]
  | .busRead7 => .busRead 7
  | .pollFrame => .stage .frameReader
  | .dupFilter => .stage .duplicateSuppressor
  | .decode => .stage .eventDecoder
  | .pack => .stage .packer
  | .pktDup => .pkt prev.toPkt
  | .evStart g x y => .pkt (startPacket g x y).toPkt
  | .evMove g x y => .pkt (movePacket g x y).toPkt
  | .evEnd g x y => .pkt (endPacket g x y).toPkt
  | .evNone p => .pkt p.toPkt
  | .evwNone => .evw 0#32
  | .evwStart x y => .evw (0x01000000#32 ||| (x.setWidth 32 <<< 12) ||| y.setWidth 32)
  | .evwMove x y => .evw (0x02000000#32 ||| (x.setWidth 32 <<< 12) ||| y.setWidth 32)
  | .evwEnd x y => .evw (0x04000000#32 ||| (x.setWidth 32 <<< 12) ||| y.setWidth 32)
  | .seqIdle => .seq 0b000#3
  | .seqDrain1 => .seq 0b001#3
  | .seqAwaitStart => .seq 0b010#3
  | .seqAwaitEnd => .seq 0b011#3
  | .seqDrain2 => .seq 0b100#3
  | .seqDone => .seq 0b101#3

/-! The words of spec/opcode_table.json. -/

/-- The code that a word of the table's `nbits` bits is. The table's formats share widths once these are rounded up to
bytes, so a width is read as follows (notes/assumptions/15.md): 2 bits CMD; 3 bits SEQ; 8 bits CMD for 0 to 3, else SEQ, and
above the 3-bit codes the data byte of a write; 32 bits EVW; 56 bits PKT. -/
def tableCode (nbits w : Nat) : Option Code :=
  if nbits = 2 then some (.cmd (BitVec.ofNat 2 w))
  else if nbits = 3 then some (.seq (BitVec.ofNat 3 w))
  else if nbits = 8 then
    if w < 4 then some (.cmd (BitVec.ofNat 2 w))
    else if w < 8 then some (.seq (BitVec.ofNat 3 w))
    else some (.busWrite [BitVec.ofNat 8 w])
  else if nbits = 32 then some (.evw (BitVec.ofNat 32 w))
  else if nbits = 56 then some (.pkt (BitVec.ofNat 56 w))
  else none

/-- The instruction the decoder reads from a word of the operation table, as the first one after reset: PREV is all zero
(R22), so a packet is classified against seven zero bytes. -/
def decodeTableWord (nbits w : Nat) : Option Instr :=
  match tableCode nbits w with
  | some c =>
    match decode Packet.zero c with
    | .ok i => some i
    | .error _ => none
  | none => none

end Sys2Proof
end

