-- ==== Sys2Proof/Machine/State.lean ====
section
/-! DEFINITION. The state of the machine as plain data: the block's four registers (10_state.md R10), its ports, the history
(R24), what host, platform and environment are about to do (00_scope.md R5), and the model's two own fields, `wires` and
`draws`. Last, the reset state (R22, 70_reset_and_hazards.md R125). -/

namespace Sys2Proof.Machine

/-- SEQ, the Click Sequencer's control state: six values (R14). -/
inductive Seq where
  | idle
  | drain1
  | awaitStart
  | awaitEnd
  | drain2
  | done
  deriving DecidableEq, Repr

/-- The two host commands (R41). -/
inductive HostCommand where
  | readEvent
  | awaitClick
  deriving DecidableEq, Repr

/-- The internal outcome of a poll: the five causes of a zero word, or that an event was produced (R111, R93). -/
inductive Cause where
  | eventProduced (k : EventKind)
  | busWriteFailure
  | busReadFailure
  | duplicateFrame
  | unrecognizedGesture
  | unrecognizedPhaseCombination
  deriving DecidableEq, Repr

/-- A transfer with its constant operands and its answer (R26 to R28). -/
inductive Transfer where
  | write (address : Nat) (data : List Byte) (timeout : Nat) (answer : WriteAnswer)
  | read (address : Nat) (length : Nat) (timeout : Nat) (answer : ReadAnswer)
  deriving DecidableEq, Repr

/-- An entry of the history (R24; the outcomes: R7, R111). -/
inductive HistoryEvent where
  | transfer (t : Transfer)
  | accepted (c : HostCommand)
  | response (w : EventWord)
  | outcome (c : Cause)
  deriving DecidableEq, Repr

/-- What the platform does in a step: nothing, the block's reset (R125), or the completion of the initialisation contract,
the touch controller's own reset included (R127, R128). -/
inductive PlatformEvent where
  | quiet
  | blockReset
  | controllerInit
  deriving DecidableEq, Repr

/-- What stands on the block's inputs in one step: the code on the command port (R42) and the platform's event. -/
structure PortSample where
  cmd      : BitVec 2
  platform : PlatformEvent
  deriving DecidableEq, Repr

/-- The result of POLL_FRAME: NoData or Fresh(p) (R7, R60). -/
inductive FrameResult where
  | noData
  | fresh (p : Packet)
  deriving DecidableEq, Repr

/-- The result of DUP_FILTER: Discard or Pass(p) (R7, R70). -/
inductive FilterResult where
  | discard
  | pass (p : Packet)
  deriving DecidableEq, Repr

/-- What the stages of the poll in progress hand to one another. It exists only inside a poll (R17, R21):
notes/assumptions/7.md. -/
structure Wires where
  write  : WriteAnswer
  read   : ReadAnswer
  frame  : FrameResult
  filter : FilterResult
  event  : NormalizedEvent
  word   : EventWord
  deriving DecidableEq, Repr

/-- The wires when nothing has been delivered. -/
def Wires.quiet : Wires := ⟨.fail, .fail, .noData, .discard, .noEvent, 0#32⟩

/-- Why the machine stops with a fault. The block raises none (R110), and no operation of the model ends in one. -/
inductive Fault where
  /-- A read of CUR while CUR holds no value: "reading it is a `fault` of the model" (U1, R12). Raised by no operation: a stage
  without a packet is not run and reads nothing (R65, R90). Safe: nothing is claimed of such a read. -/
  | curHoldsNoValue
  deriving DecidableEq, Repr

/-- Why the machine refuses. -/
inductive Refusal where
  /-- An operation that has no meaning yet, rejected by its mnemonic in Dispatch. Safe: nothing is claimed of it. -/
  | notModelled (mnemonic : String)
  /-- A transfer, a poll or the acceptance of a command while INIT_DONE does not hold: "`refuse`: launch premise INIT_DONE
  missing" (U5, R66, R128). Safe: nothing is claimed of such a run. -/
  | initNotDone
  deriving DecidableEq, Repr

/-- The machine's state. -/
structure State where
  /-- PREV: the previous packet (R11). -/
  prev : Packet
  /-- CUR: the packet of the current poll, or no value (R12, D10). -/
  cur : Option Packet
  /-- R: the captured End word (R13). -/
  r : EventWord
  /-- SEQ: the sequencer's state (R14). -/
  seq : Seq
  /-- The response port: the word given in the last step, if it gave one (R43, R22). -/
  response : Option EventWord
  /-- The stages' results inside a poll; quiet between steps. -/
  wires : Wires
  /-- INIT_DONE, the launch premise (R128). -/
  initDone : Bool
  /-- What the block's inputs will show, one sample per step, oldest first; past the end, nothing (R42, R125, R128). -/
  pins : List PortSample
  /-- The environment's answers to the next write transfers (R27, R39). -/
  writeAnswers : List WriteAnswer
  /-- The environment's answers to the next read transfers (R28, R39). -/
  readAnswers : List ReadAnswer
  /-- How many free answers have been drawn. -/
  draws : Nat
  /-- Transfers, commands, responses and outcomes, oldest first (R24); no rule of the block reads it. -/
  history : List HistoryEvent
  deriving DecidableEq, Repr

/-- Block reset (R22, R125): PREV all zero, CUR without a value, R zero, SEQ idle, no response pending. The launch premise
holds (notes/assumptions/1.md); nothing is scheduled on the inputs (2 and 3). -/
def State.reset : State where
  prev := Packet.zero
  cur := none
  r := 0#32
  seq := .idle
  response := none
  wires := .quiet
  initDone := true
  pins := []
  writeAnswers := []
  readAnswers := []
  draws := 0
  history := []

end Sys2Proof.Machine
end

