-- ==== Sys2Proof/Machine/Flags.lean ====
section
/-! DEFINITION. The block has no status flag (10_state.md R17). What it computes in place of flags: the bit `ready` (R18), the
kind tests on an event word (30_encoding.md R48), the code of the sequencer state (R57) and the codes of the internal causes
(60_exceptions.md R111). -/

namespace Sys2Proof

/-- `kind_of(w)` by the tests of R48 in their order. R48 gives no kind to a non-zero word without a tag bit, and no such
word is ever produced (R52, U11). -/
def kindOf (w : EventWord) : Option EventKind :=
  if w = 0#32 then some .noneKind
  else if w &&& Config.tagStart ≠ 0#32 then some .startKind
  else if w &&& Config.tagMove ≠ 0#32 then some .moveKind
  else if w &&& Config.tagEnd ≠ 0#32 then some .endKind
  else none

namespace Machine

/-- `ready = (SEQ = IDLE)` (R18, R42). -/
def State.ready (s : State) : Bool := s.seq == .idle

/-- The 3-bit code of SEQ (R14, R57). -/
def Seq.code : Seq → BitVec 3
  | .idle => 0b000#3
  | .drain1 => 0b001#3
  | .awaitStart => 0b010#3
  | .awaitEnd => 0b011#3
  | .drain2 => 0b100#3
  | .done => 0b101#3

/-- The SEQ value of a 3-bit code; 0b110 and 0b111 are unused (R14, R57, U10). -/
def Seq.ofCode (c : BitVec 3) : Option Seq :=
  if c = 0b000#3 then some .idle
  else if c = 0b001#3 then some .drain1
  else if c = 0b010#3 then some .awaitStart
  else if c = 0b011#3 then some .awaitEnd
  else if c = 0b100#3 then some .drain2
  else if c = 0b101#3 then some .done
  else none

/-- The code of an outcome, 1 to 5 for a cause of a zero word, 0 for an event (R111). -/
def Cause.code : Cause → Nat
  | .eventProduced _ => 0
  | .busWriteFailure => 1
  | .busReadFailure => 2
  | .duplicateFrame => 3
  | .unrecognizedGesture => 4
  | .unrecognizedPhaseCombination => 5

/-- Why the decoder makes nothing of a packet: the gesture gate is tested first (R76, R83, R113). -/
def missCause (p : Packet) : Cause :=
  if p.gesture ≠ Config.noGesture then .unrecognizedGesture else .unrecognizedPhaseCombination

end Machine
end Sys2Proof
end

