-- ==== Sys2Proof/Machine/Ops.lean ====
section
/-! DEFINITION. The shared operations: the input samples, the history, the response port, the two transfer primitives
(20_memory.md R27, R28), the end of a poll by one of the five causes (60_exceptions.md R115, the block's counterpart of taking
an exception; there is nothing to return from, R116), the launch premise and the block reset (70_reset_and_hazards.md R125). -/

namespace Sys2Proof.Machine

/-! Inputs. -/

/-- What the inputs show in this step; past the end of the list there is no command and no platform event. -/
def State.sample (s : State) : PortSample :=
  match s.pins with
  | p :: _ => p
  | [] => ⟨Config.cmdNone, .quiet⟩

/-- The step is over: the next sample stands on the inputs. -/
def State.advance (s : State) : State := { s with pins := s.pins.tail }

/-! History and response. -/

/-- One more entry of the history (R24). -/
def State.log (e : HistoryEvent) (s : State) : State := { s with history := s.history ++ [e] }

/-- `respond(w)` (R7, R43). -/
def State.respond (w : EventWord) (s : State) : State :=
  { s with response := some w, history := s.history ++ [.response w] }

/-- The host has taken the response of the step before. -/
def State.takeResponse (s : State) : State := { s with response := none }

/-- The poll is over: nothing of its stages stays (R17, R21). -/
def State.settle (s : State) : State := { s with wires := .quiet }

/-! The transfer primitives. -/

/-- The environment's answer to the next write transfer (R27, R39). -/
def State.writeAnswer (s : State) : WriteAnswer :=
  match s.writeAnswers with
  | a :: _ => a
  | [] => Config.freeWriteAnswer s.draws

/-- The environment's answer to the next read transfer (R28, R39). -/
def State.readAnswer (s : State) : ReadAnswer :=
  match s.readAnswers with
  | a :: _ => a
  | [] => Config.freeReadAnswer s.draws

/-- `BusWrite(TOUCH_ADDRESS, data, BUS_TIMEOUT)` (R26, R27): no block register is written. -/
def busWrite (data : List Byte) (s : State) : State :=
  { s with
    writeAnswers := s.writeAnswers.tail
    draws := if s.writeAnswers.isEmpty then s.draws + 1 else s.draws
    history := s.history ++ [.transfer (.write Config.touchAddress data Config.busTimeout s.writeAnswer)]
    wires := { s.wires with write := s.writeAnswer } }

/-- `BusRead(TOUCH_ADDRESS, length, BUS_TIMEOUT)` (R26, R28): no block register is written by the primitive itself. -/
def busRead (length : Nat) (s : State) : State :=
  { s with
    readAnswers := s.readAnswers.tail
    draws := if s.readAnswers.isEmpty then s.draws + 1 else s.draws
    history := s.history ++ [.transfer (.read Config.touchAddress length Config.busTimeout s.readAnswer)]
    wires := { s.wires with read := s.readAnswer } }

/-! The end of a poll without an event. -/

/-- A cause applies: the word is 0, the cause is recorded, nothing is saved and control goes nowhere special (R111, R115). -/
def endQuietly (c : Cause) (s : State) : State :=
  { s with wires := { s.wires with word := 0#32 }, history := s.history ++ [.outcome c] }

/-! A stage on the packet in CUR. -/

/-- A stage runs on the packet in CUR; where no packet has been delivered it is not run and nothing changes (R65, R90). CUR is
then not read: that read would be a fault of the model (R12, U1; notes/assumptions/5.md). -/
def withCur (stage : Packet → State → State) (s : State) : Host.Outcome State Fault Refusal :=
  match s.cur with
  | some p => .next (stage p s)
  | none => .next s

/-! The launch premise and the platform's events. -/

/-- The operation needs a ready transport (R66, R128); without the launch premise the model says nothing (U5). -/
def withInit (s t : State) : Host.Outcome State Fault Refusal :=
  if s.initDone = true then .next t else .refused .initNotDone

/-- Block reset as an event: the block is as in `State.reset`, the command in progress is abandoned without a response, no
transfer is issued and a new run begins with an empty history (R125, R140); what host, platform and environment will do, and
INIT_DONE, are not the block's (R127): notes/assumptions/6.md. -/
def State.blockReset (s : State) : State :=
  { State.reset with
    initDone := s.initDone
    pins := s.pins
    writeAnswers := s.writeAnswers
    readAnswers := s.readAnswers
    draws := s.draws }

/-- The initialisation contract is fulfilled, the controller's own reset included: PREV, R and SEQ stay (R127, R128). -/
def State.controllerInit (s : State) : State := { s with initDone := true, response := none }

/-- A function on the next state, under an outcome. -/
def mapNext (f : State → State) : Host.Outcome State Fault Refusal → Host.Outcome State Fault Refusal
  | .next s => .next (f s)
  | .fault e => .fault e
  | .refused e => .refused e

end Sys2Proof.Machine
end

