-- ==== Sys2Proof/Machine/DuplicateFilter.lean ====
section
/-! DEFINITION. The Duplicate Suppressor (41_duplicate_filter.md): DUP_FILTER and the packet class PKT_DUP. -/

namespace Sys2Proof.Machine

/-- The packet equals PREV: Discard, word 0, PREV unchanged (R73). -/
def discardFrame (s : State) : State :=
  endQuietly .duplicateFrame { s with wires := { s.wires with filter := .discard } }

/-- Any other packet replaces PREV, all 7 bytes at once, and passes, whatever the decoder makes of it (R72). -/
def passFrame (p : Packet) (s : State) : State :=
  { s with prev := p, wires := { s.wires with filter := .pass p } }

/-- DUP_FILTER on a packet: the comparison is over all 56 bits (R70, R71). -/
def filterStage (p : Packet) (s : State) : State :=
  if p = s.prev then discardFrame s else passFrame p s

/-- DUP_FILTER on the packet in CUR; not run when there is none (R70, R65, R90). -/
def execDupFilter (s : State) : Host.Outcome State Fault Refusal := withCur filterStage s

/-- PKT_DUP: the effect of class 1 (R73). -/
def execPktDup (s : State) : Host.Outcome State Fault Refusal := .next (discardFrame s)

end Sys2Proof.Machine
end

