-- ==== Sys2Proof/Machine/EventDecoder.lean ====
section
/-! DEFINITION. The Event Decoder (42_event_decoder.md R76 to R83): DECODE and the packet classes EV_START, EV_MOVE, EV_END and
EV_NONE. It reads and writes no register (R87); its result goes to the next stage. -/

namespace Sys2Proof.Machine

/-- The decoder's result is handed on. -/
def deliverEvent (e : NormalizedEvent) (s : State) : State := { s with wires := { s.wires with event := e } }

/-- A decoding miss: None, with the cause of R111 (R77, R82). -/
def decodeMiss (p : Packet) (s : State) : State := endQuietly (missCause p) (deliverEvent .noEvent s)

/-- DECODE of a packet: the class the decision table gives it (R76, R83). -/
def decodeStage (p : Packet) (s : State) : State :=
  match p.event with
  | .startAt x y => deliverEvent (.startAt x y) s
  | .moveAt x y => deliverEvent (.moveAt x y) s
  | .endAt x y => deliverEvent (.endAt x y) s
  | .noEvent => decodeMiss p s

/-- DECODE on the packet in CUR; not run when there is none (R76, R65, R90). -/
def execDecode (s : State) : Host.Outcome State Fault Refusal := withCur decodeStage s

/-- EV_START: Start(x,y) (R79). -/
def execEvStart (x y : Coord) (s : State) : Host.Outcome State Fault Refusal := .next (deliverEvent (.startAt x y) s)

/-- EV_MOVE: Move(x,y) (R80). -/
def execEvMove (x y : Coord) (s : State) : Host.Outcome State Fault Refusal := .next (deliverEvent (.moveAt x y) s)

/-- EV_END: End(x,y) (R81). -/
def execEvEnd (x y : Coord) (s : State) : Host.Outcome State Fault Refusal := .next (deliverEvent (.endAt x y) s)

/-- EV_NONE: None (R82). -/
def execEvNone (p : Packet) (s : State) : Host.Outcome State Fault Refusal := .next (decodeMiss p s)

end Sys2Proof.Machine
end

