-- ==== Sys2Proof/Machine/FrameReader.lean ====
section
/-! DEFINITION. The Frame Reader (40_frame_reader.md): BUS_REGSEL, BUS_READ7 and POLL_FRAME. -/

namespace Sys2Proof.Machine

/-- The register-select write: the single byte 0x00 (R61). -/
def regSelectWrite (s : State) : State := busWrite [Config.regSelect] s

/-- The packet read: exactly 7 bytes (R62). -/
def packetRead (s : State) : State := busRead Config.packetLen s

/-- A failed transfer: NoData, and CUR holds no value (R12, R65, R67). -/
def noDataFrame (c : Cause) (s : State) : State :=
  endQuietly c { s with cur := none, wires := { s.wires with frame := .noData } }

/-- A successful read: the 7 bytes go to CUR and the result is Fresh(CUR) (R63). -/
def freshFrame (p : Packet) (s : State) : State :=
  { s with cur := some p, wires := { s.wires with frame := .fresh p } }

/-- The read half of POLL_FRAME, after a write that answered ok (R60, R62, R63). -/
def readFrame (s : State) : State :=
  match (packetRead s).wires.read with
  | .fail => noDataFrame .busReadFailure (packetRead s)
  | .ok p => freshFrame p (packetRead s)

/-- POLL_FRAME: one write, then at most one read, no retry (R60 to R67). -/
def frameStage (s : State) : State :=
  match (regSelectWrite s.settle).wires.write with
  | .fail => noDataFrame .busWriteFailure (regSelectWrite s.settle)
  | .ok => readFrame (regSelectWrite s.settle)

/-- BUS_REGSEL (R61). -/
def execBusRegsel (s : State) : Host.Outcome State Fault Refusal := withInit s (regSelectWrite s)

/-- BUS_READ7 (R62). -/
def execBusRead7 (s : State) : Host.Outcome State Fault Refusal := withInit s (packetRead s)

/-- POLL_FRAME (R60). -/
def execPollFrame (s : State) : Host.Outcome State Fault Refusal := withInit s (frameStage s)

end Sys2Proof.Machine
end

