-- ==== Sys2Proof/Machine/Packer.lean ====
section
/-! DEFINITION. PACK (42_event_decoder.md R84) and the event-word shapes EVW_NONE, EVW_START, EVW_MOVE and EVW_END
(30_encoding.md R46). -/

namespace Sys2Proof.Machine

/-- The word of None is the number 0 (R84); the cause was recorded by the stage that found no event (R111). -/
def packNone (s : State) : State := { s with wires := { s.wires with word := NormalizedEvent.word .noEvent } }

/-- The word of an event, with outcome code 0: an event was produced (R84, R111). -/
def packEvent (e : NormalizedEvent) (s : State) : State :=
  { s with wires := { s.wires with word := e.word }, history := s.history ++ [.outcome (.eventProduced e.kind)] }

/-- PACK of an event (R84). -/
def packStage (e : NormalizedEvent) (s : State) : State :=
  match e with
  | .noEvent => packNone s
  | .startAt x y => packEvent (.startAt x y) s
  | .moveAt x y => packEvent (.moveAt x y) s
  | .endAt x y => packEvent (.endAt x y) s

/-- PACK on the decoder's result (R84). -/
def execPack (s : State) : Host.Outcome State Fault Refusal := .next (packStage s.wires.event s)

/-- EVW_NONE (R46, R84). -/
def execEvwNone (s : State) : Host.Outcome State Fault Refusal := .next (packNone s)

/-- EVW_START (R46, R84). -/
def execEvwStart (x y : Coord) (s : State) : Host.Outcome State Fault Refusal := .next (packEvent (.startAt x y) s)

/-- EVW_MOVE (R46, R84). -/
def execEvwMove (x y : Coord) (s : State) : Host.Outcome State Fault Refusal := .next (packEvent (.moveAt x y) s)

/-- EVW_END (R46, R84). -/
def execEvwEnd (x y : Coord) (s : State) : Host.Outcome State Fault Refusal := .next (packEvent (.endAt x y) s)

end Sys2Proof.Machine
end

