-- ==== Sys2Proof/Machine/Poll.lean ====
section
/-! DEFINITION. One poll (43_read_event.md R90): the stages in their fixed order, each run only if the one before delivered a
packet. It is the same operation for the host command and for the Click Sequencer (R94). -/

namespace Sys2Proof.Machine

/-- DECODE and PACK, on a packet that passed the filter (R90). -/
def decodeAndPack (p : Packet) (s : State) : State :=
  packStage (decodeStage p s).wires.event (decodeStage p s)

/-- DUP_FILTER and what follows it, on a fresh packet (R90). -/
def filterAndDecode (p : Packet) (s : State) : State :=
  match (filterStage p s).wires.filter with
  | .discard => filterStage p s
  | .pass q => decodeAndPack q (filterStage p s)

/-- READ_EVENT as a poll; its event word is left on `wires.word` (R90, R91). -/
def poll (s : State) : State :=
  match (frameStage s).wires.frame with
  | .noData => frameStage s
  | .fresh p => filterAndDecode p (frameStage s)

/-- The poll's event word. -/
def pollWord (s : State) : EventWord := (poll s).wires.word

/-- The block after the poll, its stages' results gone. -/
def afterPoll (s : State) : State := (poll s).settle

end Sys2Proof.Machine
end

