-- ==== Sys2Proof/Machine/HostCommands.lean ====
section
/-! DEFINITION. The codes of the command port (30_encoding.md R41, R53): CMD_NONE, READ_EVENT (43_read_event.md R92), AWAIT_CLICK
(44_click_sequencer.md R96) and CMD_RSVD. A command is accepted only when `ready` = 1; otherwise the code is not looked at
(R42; notes/assumptions/4.md). -/

namespace Sys2Proof.Machine

/-- READ_EVENT accepted: one poll and its response, in one step (R92). -/
def readEvent (s : State) : State :=
  let t := s.log (.accepted .readEvent)
  (afterPoll t).respond (pollWord t)

/-- AWAIT_CLICK accepted: `R <- 0; SEQ <- DRAIN1`, no poll and no response in this step (R96). -/
def acceptAwaitClick (s : State) : State :=
  { s with r := 0#32, seq := .drain1, history := s.history ++ [.accepted .awaitClick] }

/-- CMD_NONE: the block does nothing (R53). -/
def execCmdNone (s : State) : Host.Outcome State Fault Refusal := .next s

/-- READ_EVENT (R90, R92). -/
def execReadEvent (s : State) : Host.Outcome State Fault Refusal :=
  if s.ready = true then withInit s (readEvent s) else .next s

/-- AWAIT_CLICK (R95, R96). -/
def execAwaitClick (s : State) : Host.Outcome State Fault Refusal :=
  if s.ready = true then withInit s (acceptAwaitClick s) else .next s

/-- CMD_RSVD: ignored like CMD_NONE (R53). -/
def execCmdRsvd (s : State) : Host.Outcome State Fault Refusal := .next s

end Sys2Proof.Machine
end

