-- ==== Sys2Proof/Machine/Sequencer.lean ====
section
/-! DEFINITION. The Click Sequencer's steps (44_click_sequencer.md R96 to R102), one per value of SEQ. A polling step makes one
poll and moves on its word alone; nothing times out (R103). -/

namespace Sys2Proof.Machine

/-- The step in state IDLE: sample the command port and run the command it shows (R42, R102). -/
def execSeqIdle (s : State) : Host.Outcome State Fault Refusal :=
  if s.sample.cmd = Config.cmdReadEvent then execReadEvent s
  else if s.sample.cmd = Config.cmdAwaitClick then execAwaitClick s
  else if s.sample.cmd = Config.cmdRsvd then execCmdRsvd s
  else execCmdNone s

/-- DRAIN1: until a poll returns the word 0 (R97). -/
def drain1Step (s : State) : State :=
  { afterPoll s with seq := if pollWord s = 0#32 then .awaitStart else .drain1 }

/-- AWAIT_START: until a Start word; its coordinates are discarded (R98). -/
def awaitStartStep (s : State) : State :=
  { afterPoll s with seq := if kindOf (pollWord s) = some .startKind then .awaitEnd else .awaitStart }

/-- AWAIT_END: until an End word, which R receives whole (R99). -/
def awaitEndStep (s : State) : State :=
  if kindOf (pollWord s) = some .endKind then { afterPoll s with r := pollWord s, seq := .drain2 }
  else { afterPoll s with seq := .awaitEnd }

/-- DRAIN2: until a poll returns the word 0; R is unchanged (R100). -/
def drain2Step (s : State) : State :=
  { afterPoll s with seq := if pollWord s = 0#32 then .done else .drain2 }

/-- DONE: `respond(R); SEQ <- IDLE`, no poll (R101). -/
def doneStep (s : State) : State := { s.respond s.r with seq := .idle }

/-- SEQ_DRAIN1 (R97). -/
def execSeqDrain1 (s : State) : Host.Outcome State Fault Refusal := withInit s (drain1Step s)

/-- SEQ_AWAIT_START (R98). -/
def execSeqAwaitStart (s : State) : Host.Outcome State Fault Refusal := withInit s (awaitStartStep s)

/-- SEQ_AWAIT_END (R99). -/
def execSeqAwaitEnd (s : State) : Host.Outcome State Fault Refusal := withInit s (awaitEndStep s)

/-- SEQ_DRAIN2 (R100). -/
def execSeqDrain2 (s : State) : Host.Outcome State Fault Refusal := withInit s (drain2Step s)

/-- SEQ_DONE (R101). -/
def execSeqDone (s : State) : Host.Outcome State Fault Refusal := .next (doneStep s)

/-- What a step runs: the operation that the SEQ register selects, in place of an instruction fetched at a program counter
(R16, R57). It is the operation that the code of SEQ decodes to. -/
def Seq.instr : Seq → Instr
  | .idle => .seqIdle
  | .drain1 => .seqDrain1
  | .awaitStart => .seqAwaitStart
  | .awaitEnd => .seqAwaitEnd
  | .drain2 => .seqDrain2
  | .done => .seqDone

/-! Placing an operation so that the very next step runs it (notes/assumptions/16.md). -/

/-- The block is idle with the launch premise in force and the command code `c` stands on the port. -/
def State.placeCommand (c : BitVec 2) (s : State) : State :=
  { s with seq := .idle, initDone := true, pins := ⟨c, .quiet⟩ :: s.pins.tail }

/-- READ_EVENT stands on the port and both transfers of its poll will succeed, the read with packet `p`. -/
def State.placePacket (p : Packet) (s : State) : State :=
  { s.placeCommand Config.cmdReadEvent with
    writeAnswers := .ok :: s.writeAnswers.tail
    readAnswers := .ok p :: s.readAnswers.tail }

/-- The sequencer is in state `q`, the launch premise in force and no command on the port. -/
def State.placeSeq (q : Seq) (s : State) : State :=
  { s.placeCommand Config.cmdNone with seq := q }

/-- Ignored bits that make a packet differ from PREV. -/
def freshBits (prev : Packet) : IgnoredBits := ⟨~~~prev.p0, 0, 0, 0⟩

/-- A packet, other than PREV, whose poll ends in the event word `w`; none for a word of a shape that is never produced. -/
def packetForWord (prev : Packet) (w : EventWord) : Option Packet :=
  if w = 0#32 then some (quietPacket (freshBits prev))
  else if tagField w = Config.tagStart then some (startPacket (freshBits prev) (xOf w) (yOf w))
  else if tagField w = Config.tagMove then some (movePacket (freshBits prev) (xOf w) (yOf w))
  else if tagField w = Config.tagEnd then some (endPacket (freshBits prev) (xOf w) (yOf w))
  else none

/-- The code stands where the next step takes it from: a command on the port, a packet in the environment's answers, an
event word as the result of the poll, a sequencer state in SEQ; a rejected code changes nothing. -/
def State.placeCode (c : Code) (s : State) : State :=
  match c with
  | .cmd k => s.placeCommand k
  | .busWrite _ => s.placeCommand Config.cmdReadEvent
  | .busRead _ => { s.placeCommand Config.cmdReadEvent with writeAnswers := .ok :: s.writeAnswers.tail }
  | .stage _ => s.placePacket (startPacket (freshBits s.prev) 0 0)
  | .pkt w => s.placePacket (Packet.ofPkt w)
  | .evw w =>
    match packetForWord s.prev w with
    | some p => s.placePacket p
    | none => s
  | .seq k =>
    match Seq.ofCode k with
    | some q => s.placeSeq q
    | none => s

end Sys2Proof.Machine
end

