-- ==== Sys2Proof/Machine/Dispatch.lean ====
section
/-! DEFINITION. One arm per operation of the table, each a direct call of its meaning. -/

namespace Sys2Proof.Machine

def exec (i : Instr) (s : State) : Host.Outcome State Fault Refusal :=
  match i with
  | .cmdNone => Sys2Proof.Machine.execCmdNone s
  | .readEvent => Sys2Proof.Machine.execReadEvent s
  | .awaitClick => Sys2Proof.Machine.execAwaitClick s
  | .cmdRsvd => Sys2Proof.Machine.execCmdRsvd s
  | .busRegsel => Sys2Proof.Machine.execBusRegsel s
  | .busRead7 => Sys2Proof.Machine.execBusRead7 s
  | .pollFrame => Sys2Proof.Machine.execPollFrame s
  | .dupFilter => Sys2Proof.Machine.execDupFilter s
  | .decode => Sys2Proof.Machine.execDecode s
  | .pack => Sys2Proof.Machine.execPack s
  | .pktDup => Sys2Proof.Machine.execPktDup s
  | .evStart _ x y => Sys2Proof.Machine.execEvStart x y s
  | .evMove _ x y => Sys2Proof.Machine.execEvMove x y s
  | .evEnd _ x y => Sys2Proof.Machine.execEvEnd x y s
  | .evNone p => Sys2Proof.Machine.execEvNone p s
  | .evwNone => Sys2Proof.Machine.execEvwNone s
  | .evwStart x y => Sys2Proof.Machine.execEvwStart x y s
  | .evwMove x y => Sys2Proof.Machine.execEvwMove x y s
  | .evwEnd x y => Sys2Proof.Machine.execEvwEnd x y s
  | .seqIdle => Sys2Proof.Machine.execSeqIdle s
  | .seqDrain1 => Sys2Proof.Machine.execSeqDrain1 s
  | .seqAwaitStart => Sys2Proof.Machine.execSeqAwaitStart s
  | .seqAwaitEnd => Sys2Proof.Machine.execSeqAwaitEnd s
  | .seqDrain2 => Sys2Proof.Machine.execSeqDrain2 s
  | .seqDone => Sys2Proof.Machine.execSeqDone s

end Sys2Proof.Machine
end

