-- ==== Sys2Proof/Machine/Step.lean ====
section
/-! DEFINITION. One step of the machine (00_scope.md R5, R7): the platform's event if there is one, else one step of the block,
which is the operation that SEQ selects. The response of the step before has been taken, and the next sample stands on the
inputs afterwards. -/

namespace Sys2Proof.Machine

/-- One step. -/
def step (s : State) : Host.Outcome State Fault Refusal :=
  match s.sample.platform with
  | .blockReset => .next s.blockReset.advance
  | .controllerInit => .next s.controllerInit.advance
  | .quiet => mapNext State.advance (exec s.seq.instr s.takeResponse)

/-- `s` with the operation-table word `w` of `nbits` bits standing where the next step takes it from. -/
def State.withFetchWord (s : State) (nbits w : Nat) : State :=
  match tableCode nbits w with
  | some c => s.placeCode c
  | none => s

end Sys2Proof.Machine
end

