-- ==== Sys2Proof/Safety.lean ====
section
/-! DEFINITION. The terms in which claims about runs are made: runs, quiet inputs, what a history says (10_state.md R24), and the
invariants of the machine. -/

namespace Sys2Proof

open Machine

/-- `n` steps from a state. -/
def run (n : Nat) (s : State) : Host.Outcome State Fault Refusal := core.run n s

/-- The next step neither faults nor refuses. -/
def SafeStep (s : State) : Prop := ∃ t, step s = .next t

/-- No platform event is scheduled: no block reset (R125), no controller initialisation (R127). -/
def QuietPlatform (s : State) : Prop := ∀ p ∈ s.pins, p.platform = .quiet

/-! Words. -/

/-- A word the block may produce: one of the four shapes (R46, R52). -/
def IsEventWord (w : EventWord) : Prop := ∃ e : NormalizedEvent, w = e.word

/-- An End word (R108). -/
def IsEndWord (w : EventWord) : Prop := ∃ x y : Coord, w = NormalizedEvent.word (.endAt x y)

/-- The answer that the read transfer of the next poll gets, if its write transfer answers ok. -/
def pollReadAnswer (s : State) : ReadAnswer := (regSelectWrite s).readAnswer

/-- The word of the k-th poll (from 0), if the block polls without a pause. -/
def wordAt (k : Nat) (s : State) : EventWord := pollWord (afterPoll^[k] s)

/-! What a history says. -/

/-- The transfers, in order. -/
def transfers : List HistoryEvent → List Transfer
  | [] => []
  | .transfer t :: h => t :: transfers h
  | .accepted _ :: h => transfers h
  | .response _ :: h => transfers h
  | .outcome _ :: h => transfers h

/-- The responses, in order. -/
def responses : List HistoryEvent → List EventWord
  | [] => []
  | .response w :: h => w :: responses h
  | .transfer _ :: h => responses h
  | .accepted _ :: h => responses h
  | .outcome _ :: h => responses h

/-- The accepted commands, in order. -/
def accepted : List HistoryEvent → List HostCommand
  | [] => []
  | .accepted c :: h => c :: accepted h
  | .transfer _ :: h => accepted h
  | .response _ :: h => accepted h
  | .outcome _ :: h => accepted h

/-- The number of polls: each issues exactly one write transfer (R24, R61). -/
def polls : List HistoryEvent → Nat
  | [] => 0
  | .transfer (.write _ _ _ _) :: h => polls h + 1
  | .transfer (.read _ _ _ _) :: h => polls h
  | .accepted _ :: h => polls h
  | .response _ :: h => polls h
  | .outcome _ :: h => polls h

/-- The last packet successfully read, `q` if there is none in the history (R93). -/
def lastPacket (q : Packet) : List HistoryEvent → Packet
  | [] => q
  | .transfer (.read _ _ _ (.ok p)) :: h => lastPacket p h
  | .transfer (.read _ _ _ .fail) :: h => lastPacket q h
  | .transfer (.write _ _ _ _) :: h => lastPacket q h
  | .accepted _ :: h => lastPacket q h
  | .response _ :: h => lastPacket q h
  | .outcome _ :: h => lastPacket q h

/-- The history uses the bus as R26, R61 and R62 say: every write is the register-select write, every read the 7-byte read,
a read directly follows a write that answered ok, and such a write is directly followed by its read. `selected` says that the
entry before was such a write. -/
def BusOrder (selected : Bool) : List HistoryEvent → Prop
  | [] => selected = false
  | .transfer (.write a d t r) :: h =>
    selected = false ∧ a = Config.touchAddress ∧ d = [Config.regSelect] ∧ t = Config.busTimeout ∧
      BusOrder (r == .ok) h
  | .transfer (.read a n t _) :: h =>
    selected = true ∧ a = Config.touchAddress ∧ n = Config.packetLen ∧ t = Config.busTimeout ∧ BusOrder false h
  | .accepted _ :: h => selected = false ∧ BusOrder false h
  | .response _ :: h => selected = false ∧ BusOrder false h
  | .outcome _ :: h => selected = false ∧ BusOrder false h

/-- The history's entry for a register-select write (R26, R44). -/
def regSelectEntry (a : WriteAnswer) : HistoryEvent :=
  .transfer (.write Config.touchAddress [0x00#8] Config.busTimeout a)

/-- The history's entry for a packet read (R26, R44). -/
def packetReadEntry (a : ReadAnswer) : HistoryEvent :=
  .transfer (.read Config.touchAddress 7 Config.busTimeout a)

/-! Frames. -/

/-- PREV, R and SEQ are as before. -/
def SameRegisters (s t : State) : Prop := t.prev = s.prev ∧ t.r = s.r ∧ t.seq = s.seq

/-- The response port, the inputs to come and the launch premise are as before. -/
def SamePorts (s t : State) : Prop := t.response = s.response ∧ t.pins = s.pins ∧ t.initDone = s.initDone

/-! Invariants. -/

/-- Nothing of a poll's stages stays between steps (R17, R21). -/
def WiresQuiet (s : State) : Prop := s.wires = .quiet

/-- Once AWAIT_END has been left, R holds an End word until the response is given (R99, R108). -/
def EndCaptured (s : State) : Prop := s.seq = .drain2 ∨ s.seq = .done → IsEndWord s.r

/-- Every word given to the host has one of the four shapes (R43, R52). -/
def ResponsesShaped (s : State) : Prop :=
  (∀ w ∈ responses s.history, IsEventWord w) ∧ ∀ w, s.response = some w → IsEventWord w

/-- PREV is the last packet successfully read since the last block reset, with which the history begins
(notes/assumptions/6.md), or its reset value if there has been none (R93). -/
def PrevIsLastPacket (s : State) : Prop := s.prev = lastPacket Packet.zero s.history

/-- Every command accepted since the last block reset has had exactly one response, but for the one in progress (R43, R125;
notes/assumptions/6.md). -/
def CommandsAnswered (s : State) : Prop :=
  (accepted s.history).length = (responses s.history).length + if s.seq = .idle then 0 else 1

/-- The transfers of the history are those of the rules, in their order (R26, R35, R61, R62). -/
def BusLegal (s : State) : Prop := BusOrder false s.history

/-- The edges of the transition table: forward or stay (R102). -/
def seqMayFollow : Seq → Seq → Bool
  | .idle, .idle => true
  | .idle, .drain1 => true
  | .drain1, .drain1 => true
  | .drain1, .awaitStart => true
  | .awaitStart, .awaitStart => true
  | .awaitStart, .awaitEnd => true
  | .awaitEnd, .awaitEnd => true
  | .awaitEnd, .drain2 => true
  | .drain2, .drain2 => true
  | .drain2, .done => true
  | .done, .idle => true
  | _, _ => false

end Sys2Proof
end

