-- ==== Sys2Proof/Certificates/Slice0/Obligations.lean ====
section
/-! DEFINITION. The statements about the block that the provers settle, from the numbered rules of spec/. -/

open Sys2Proof Sys2Proof.Machine

/-! Encodings. -/

/-- Words written out from the spec's encodings (R41, R44, R45, R46, R49, R57; vectors V20, V39, V41) decode to what they stand
for. The packets' classes rest on NO_GESTURE = 0x00 and the event word on the tag layout, both choices
(notes/assumptions/11.md and 12.md). -/
def Obligations.WrittenWordsDecode : Prop :=
  decode Packet.zero (.cmd 0b01#2) = .ok .readEvent ∧
  decode Packet.zero (.cmd 0b11#2) = .ok .cmdRsvd ∧
  decode Packet.zero (.busWrite [0x00#8]) = .ok .busRegsel ∧
  decode Packet.zero (.busRead 7) = .ok .busRead7 ∧
  decode Packet.zero (.pkt 0x00000000000000#56) = .ok .pktDup ∧
  decode Packet.zero (.pkt 0x000001000A0014#56) = .ok (.evStart ⟨0x00#8, 0x0#4, 0b00#2, 0x0#4⟩ 10#12 20#12) ∧
  decode Packet.zero (.pkt 0xAB00F13FFFFFFF#56) = .ok (.evStart ⟨0xAB#8, 0xF#4, 0b11#2, 0xF#4⟩ 0xFFF#12 0xFFF#12) ∧
  decode Packet.zero (.pkt 0x5500E07234A567#56) = .ok (.evEnd ⟨0x55#8, 0xE#4, 0b11#2, 0xA#4⟩ 0x234#12 0x567#12) ∧
  decode Packet.zero (.evw 0x02123456#32) = .ok (.evwMove 0x123#12 0x456#12) ∧
  decode Packet.zero (.seq 0b011#3) = .ok .seqAwaitEnd

/-- Decoding the code of a well-formed operation gives the operation back, whatever PREV holds: no bit of any format of R40 is
dropped. -/
def Obligations.DecodeOfEncode : Prop :=
  ∀ (prev : Packet) (i : Instr), i.wellFormed prev = true → decode prev (encode prev i) = .ok i

/-- A code that decodes is the code of the operation it decodes to, and that operation is well formed: each code has one
meaning. -/
def Obligations.EncodeOfDecode : Prop :=
  ∀ (prev : Packet) (c : Code) (i : Instr), decode prev c = .ok i → encode prev i = c ∧ i.wellFormed prev = true

/-- The five packet classes by the masks and matches of R49's table, tested in its order. The numbers hold for
NO_GESTURE = 0x00, a choice (notes/assumptions/11.md). -/
def Obligations.PacketClassesByMask : Prop :=
  ∀ (prev : Packet) (w : BitVec 56), ∃ i, decode prev (.pkt w) = .ok i ∧
    (w = prev.toPkt → i = .pktDup) ∧
    (w ≠ prev.toPkt → w &&& 0x00FF0FC0000000#56 = 0x00000100000000#56 → ∃ g x y, i = .evStart g x y) ∧
    (w ≠ prev.toPkt → w &&& 0x00FF0FC0000000#56 = 0x00000180000000#56 → ∃ g x y, i = .evMove g x y) ∧
    (w ≠ prev.toPkt → w &&& 0x00FF0FC0000000#56 = 0x00000040000000#56 → ∃ g x y, i = .evEnd g x y) ∧
    (w ≠ prev.toPkt → w &&& 0x00FF0FC0000000#56 ≠ 0x00000100000000#56 →
      w &&& 0x00FF0FC0000000#56 ≠ 0x00000180000000#56 → w &&& 0x00FF0FC0000000#56 ≠ 0x00000040000000#56 →
      i = .evNone (Packet.ofPkt w))

/-- The event words that decode are exactly the words of events, and the SEQ codes 0b110 and 0b111 are rejected by name
(R46, R52, R57). The tag layout is a choice
(notes/assumptions/12.md). -/
def Obligations.OnlyProducedCodesDecode : Prop :=
  (∀ (prev : Packet) (w : EventWord), (∃ i, decode prev (.evw w) = .ok i) ↔ IsEventWord w) ∧
  (∀ prev : Packet, decode prev (.seq 0b110#3) = .error .seqCodeUnused ∧
    decode prev (.seq 0b111#3) = .error .seqCodeUnused)

/-- The bits of an event word: 31:27 are 0, at most one tag bit is 1, no tag bit only in the word 0, and a Start, Move or End
word is never 0 (R52). The places of the bits are a choice (notes/assumptions/12.md). -/
def Obligations.EventWordBits : Prop :=
  ∀ e : NormalizedEvent,
    e.word.extractLsb' 27 5 = 0#5 ∧
    (e.word.extractLsb' 24 3 = 0b000#3 ∨ e.word.extractLsb' 24 3 = 0b001#3 ∨ e.word.extractLsb' 24 3 = 0b010#3 ∨
      e.word.extractLsb' 24 3 = 0b100#3) ∧
    (e.word.extractLsb' 24 3 = 0b000#3 → e.word = 0#32) ∧
    (e ≠ .noEvent → e.word ≠ 0#32)

/-- The operands of the decoder (R47): gesture, points and phase as given there, the phase test is the test of the 2-bit
field, and x and y are the 12-bit numbers with the nibble above the byte. -/
def Obligations.DecoderOperands : Prop :=
  ∀ p : Packet,
    p.gesture = p.p1 ∧ p.points = p.p2 &&& 0x0F#8 ∧ p.phase = p.p3 &&& 0xC0#8 ∧
    (p.phase = 0x00#8 ↔ p.p3.extractLsb' 6 2 = 0b00#2) ∧ (p.phase = 0x80#8 ↔ p.p3.extractLsb' 6 2 = 0b10#2) ∧
    (p.phase = 0x40#8 ↔ p.p3.extractLsb' 6 2 = 0b01#2) ∧ (p.phase = 0xC0#8 ↔ p.p3.extractLsb' 6 2 = 0b11#2) ∧
    p.x.toNat = (p.p3.toNat % 16) * 256 + p.p4.toNat ∧ p.y.toNat = (p.p5.toNat % 16) * 256 + p.p6.toNat

/-- The round trip of R86: coordinates and kind come back out of the packed word, None has the kind None, and PACK is
injective. The spec marks R86 as its own inference, from R84 and R48. -/
def Obligations.PackThenUnpack : Prop :=
  (∀ x y : Coord,
    (xOf (NormalizedEvent.word (.startAt x y)) = x ∧ yOf (NormalizedEvent.word (.startAt x y)) = y ∧
      kindOf (NormalizedEvent.word (.startAt x y)) = some .startKind) ∧
    (xOf (NormalizedEvent.word (.moveAt x y)) = x ∧ yOf (NormalizedEvent.word (.moveAt x y)) = y ∧
      kindOf (NormalizedEvent.word (.moveAt x y)) = some .moveKind) ∧
    (xOf (NormalizedEvent.word (.endAt x y)) = x ∧ yOf (NormalizedEvent.word (.endAt x y)) = y ∧
      kindOf (NormalizedEvent.word (.endAt x y)) = some .endKind)) ∧
  kindOf (NormalizedEvent.word .noEvent) = some .noneKind ∧
  ∀ e f : NormalizedEvent, e.word = f.word → e = f

/-! The step. -/

/-- A step without a platform event runs the operation that the code of SEQ decodes to; around it, the response of the step
before has been taken and the next input sample follows, which is the model's choice (R16, R57; notes/assumptions/3.md and
8.md). -/
def Obligations.StepRunsSelectedOperation : Prop :=
  ∀ (s : State) (i : Instr), s.sample.platform = .quiet → decode s.prev (.seq s.seq.code) = .ok i →
    step s = mapNext State.advance (exec i s.takeResponse)

/-- In SEQ_IDLE the command port selects the operation: what its code decodes to runs, and SEQ_IDLE completes (R42, R102). -/
def Obligations.IdleRunsPortCommand : Prop :=
  ∀ (s : State) (i : Instr), decode s.prev (.cmd s.sample.cmd) = .ok i → s.initDone = true →
    exec .seqIdle s = exec i s ∧ ∃ t, exec .seqIdle s = .next t ∧ t.initDone = true ∧ t.pins = s.pins

/-- No command: CMD_NONE and CMD_RSVD change nothing, and an idle step that shows 0b00 or 0b11 leaves the whole block as it
was, issues no transfer and gives no response (R53). That the step uses up the input sample and that a response of the step
before is gone is the model's choice (notes/assumptions/3.md and 8.md). -/
def Obligations.NoCommandChangesNothing : Prop :=
  (∀ s : State, exec .cmdNone s = .next s ∧ exec .cmdRsvd s = .next s) ∧
  ∀ s : State, s.seq = .idle → (s.sample.cmd = 0b00#2 ∨ s.sample.cmd = 0b11#2) → s.sample.platform = .quiet →
    exec .seqIdle s = .next s ∧ step s = .next { s with pins := s.pins.tail, response := none }

/-- Block reset (R22, R125): at any moment, PREV all zero, CUR without a value, R zero, SEQ idle, ready, no response; no
transfer is issued, so no answer is used. The reset state is such a state. That the history begins anew is the model's choice
(notes/assumptions/6.md). -/
def Obligations.BlockResetInitialises : Prop :=
  (∀ s : State, s.sample.platform = .blockReset → ∃ t, step s = .next t ∧
    t.prev = ⟨0x00#8, 0x00#8, 0x00#8, 0x00#8, 0x00#8, 0x00#8, 0x00#8⟩ ∧ t.cur = none ∧ t.r = 0x00000000#32 ∧
    t.seq = .idle ∧ t.ready = true ∧ t.response = none ∧
    t.writeAnswers = s.writeAnswers ∧ t.readAnswers = s.readAnswers ∧ t.draws = s.draws ∧
    transfers t.history = []) ∧
  (State.reset.prev = ⟨0x00#8, 0x00#8, 0x00#8, 0x00#8, 0x00#8, 0x00#8, 0x00#8⟩ ∧ State.reset.cur = none ∧
    State.reset.r = 0x00000000#32 ∧ State.reset.seq = .idle ∧ State.reset.ready = true ∧ State.reset.response = none)

/-- The controller's own reset and initialisation is no block reset: PREV, CUR, R and SEQ stay (R127). The
event as an input of a step, and that CUR and the history stay, are the model's choice (notes/assumptions/22.md). -/
def Obligations.ControllerInitKeepsBlock : Prop :=
  ∀ s : State, s.sample.platform = .controllerInit → ∃ t, step s = .next t ∧ SameRegisters s t ∧ t.cur = s.cur ∧
    t.initDone = true ∧ t.history = s.history ∧ t.writeAnswers = s.writeAnswers ∧ t.readAnswers = s.readAnswers

/-- Without the launch premise every operation that needs the bus, and the acceptance of a command, is refused (U5, R66,
R128): the model's reading of U5 (notes/assumptions/1.md). -/
def Obligations.LaunchPremiseRequired : Prop :=
  ∀ s : State, s.initDone = false →
    exec .busRegsel s = .refused .initNotDone ∧ exec .busRead7 s = .refused .initNotDone ∧
    exec .pollFrame s = .refused .initNotDone ∧ exec .seqDrain1 s = .refused .initNotDone ∧
    exec .seqAwaitStart s = .refused .initNotDone ∧ exec .seqAwaitEnd s = .refused .initNotDone ∧
    exec .seqDrain2 s = .refused .initNotDone ∧
    (s.seq = .idle → exec .readEvent s = .refused .initNotDone ∧ exec .awaitClick s = .refused .initNotDone)

/-- Without a packet DUP_FILTER and DECODE are not run: they complete and nothing changes, PREV included (R65, R90). As
operations run on their own with CUR empty this is the model's reading (notes/assumptions/5.md and 17.md). -/
def Obligations.EmptyCurChangesNothing : Prop :=
  ∀ s : State, s.cur = none → exec .dupFilter s = .next s ∧ exec .decode s = .next s

/-! The stages of a poll. -/

/-- BUS_REGSEL (R61): one register-select write of the byte 0x00 with the environment's answer; nothing else changes. -/
def Obligations.RegisterSelectWrite : Prop :=
  ∀ s : State, s.initDone = true →
    exec .busRegsel s = .next { s with
      writeAnswers := s.writeAnswers.tail
      draws := if s.writeAnswers = [] then s.draws + 1 else s.draws
      history := s.history ++ [regSelectEntry s.writeAnswer]
      wires := { s.wires with write := s.writeAnswer } }

/-- BUS_READ7 (R62): one read of exactly 7 bytes with the environment's answer; nothing else changes. -/
def Obligations.PacketReadTransfer : Prop :=
  ∀ s : State, s.initDone = true →
    exec .busRead7 s = .next { s with
      readAnswers := s.readAnswers.tail
      draws := if s.readAnswers = [] then s.draws + 1 else s.draws
      history := s.history ++ [packetReadEntry s.readAnswer]
      wires := { s.wires with read := s.readAnswer } }

/-- The outcome table of POLL_FRAME (R67): the transfers issued, CUR, the result and the recorded cause in each of its three
lines, PREV, R, SEQ and the ports unchanged; and a failed write makes READ_EVENT respond 0. That CUR, unspecified there after a failure, holds no value follows
R12 (notes/assumptions/5.md); the answers as scripts are the model's choice (notes/assumptions/2.md). -/
def Obligations.FrameReaderOutcomes : Prop :=
  (∀ s : State, s.initDone = true → ∃ t, exec .pollFrame s = .next t ∧ SameRegisters s t ∧ SamePorts s t ∧
    (s.writeAnswer = .fail → t.wires.frame = .noData ∧ t.cur = none ∧ t.readAnswers = s.readAnswers ∧
      t.history = s.history ++ [regSelectEntry .fail, .outcome .busWriteFailure]) ∧
    (s.writeAnswer = .ok → pollReadAnswer s = .fail → t.wires.frame = .noData ∧ t.cur = none ∧
      t.history = s.history ++ [regSelectEntry .ok, packetReadEntry .fail, .outcome .busReadFailure]) ∧
    (∀ p, s.writeAnswer = .ok → pollReadAnswer s = .ok p → t.wires.frame = .fresh p ∧ t.cur = some p ∧
      t.history = s.history ++ [regSelectEntry .ok, packetReadEntry (.ok p)])) ∧
  (∀ s : State, s.initDone = true → s.seq = .idle → s.writeAnswer = .fail →
    ∃ t, exec .readEvent s = .next t ∧ t.response = some 0#32)

/-- DUP_FILTER (R70): a packet equal to PREV is discarded and PREV stays; any other replaces PREV and passes. Nothing else
changes but the recorded outcome of a discard. -/
def Obligations.DuplicateFilterResult : Prop :=
  ∀ (s : State) (p : Packet), s.cur = some p →
    ((p.p0 = s.prev.p0 ∧ p.p1 = s.prev.p1 ∧ p.p2 = s.prev.p2 ∧ p.p3 = s.prev.p3 ∧ p.p4 = s.prev.p4 ∧
        p.p5 = s.prev.p5 ∧ p.p6 = s.prev.p6) →
      exec .dupFilter s = .next { s with
        wires := { s.wires with filter := .discard, word := 0#32 }
        history := s.history ++ [.outcome .duplicateFrame] }) ∧
    (¬ (p.p0 = s.prev.p0 ∧ p.p1 = s.prev.p1 ∧ p.p2 = s.prev.p2 ∧ p.p3 = s.prev.p3 ∧ p.p4 = s.prev.p4 ∧
        p.p5 = s.prev.p5 ∧ p.p6 = s.prev.p6) →
      exec .dupFilter s = .next { s with prev := p, wires := { s.wires with filter := .pass p } })

/-- PKT_DUP (R73): Discard, the word is 0, PREV is not written; and a poll that reads a packet equal to PREV runs no decoder:
READ_EVENT responds 0, records DuplicateFrame and leaves PREV. -/
def Obligations.DuplicateIsDiscarded : Prop :=
  (∀ s : State, exec .pktDup s = .next { s with
    wires := { s.wires with filter := .discard, word := 0#32 }
    history := s.history ++ [.outcome .duplicateFrame] }) ∧
  ∀ s : State, s.initDone = true → s.seq = .idle → s.writeAnswer = .ok → pollReadAnswer s = .ok s.prev →
    ∃ t, exec .readEvent s = .next t ∧ t.response = some 0#32 ∧ t.prev = s.prev ∧
      t.history = s.history ++ [.accepted .readEvent, regSelectEntry .ok, packetReadEntry (.ok s.prev),
        .outcome .duplicateFrame, .response 0#32]

/-- DECODE (R76): the event of the packet in CUR by the gesture gate and the decision table, read from the bytes of the
packet; a miss records its cause; no register is read or written but CUR. The gesture byte 0x00 is NO_GESTURE, a choice
(notes/assumptions/11.md). -/
def Obligations.DecisionTable : Prop :=
  ∀ (s : State) (p : Packet), s.cur = some p → ∃ t, exec .decode s = .next t ∧
    SameRegisters s t ∧ SamePorts s t ∧ t.cur = s.cur ∧ t.writeAnswers = s.writeAnswers ∧
    t.readAnswers = s.readAnswers ∧ t.draws = s.draws ∧
    (p.p1 ≠ 0x00#8 → t.wires.event = .noEvent ∧ t.history = s.history ++ [.outcome .unrecognizedGesture]) ∧
    (p.p1 = 0x00#8 → p.p2.toNat % 16 = 1 → p.p3.toNat / 64 = 0 → t.wires.event = .startAt p.x p.y ∧ t.history = s.history) ∧
    (p.p1 = 0x00#8 → p.p2.toNat % 16 = 1 → p.p3.toNat / 64 = 2 → t.wires.event = .moveAt p.x p.y ∧ t.history = s.history) ∧
    (p.p1 = 0x00#8 → p.p2.toNat % 16 = 0 → p.p3.toNat / 64 = 1 → t.wires.event = .endAt p.x p.y ∧ t.history = s.history) ∧
    (p.p1 = 0x00#8 → ¬ (p.p2.toNat % 16 = 1 ∧ (p.p3.toNat / 64 = 0 ∨ p.p3.toNat / 64 = 2)) →
      ¬ (p.p2.toNat % 16 = 0 ∧ p.p3.toNat / 64 = 1) →
      t.wires.event = .noEvent ∧ t.history = s.history ++ [.outcome .unrecognizedPhaseCombination])

/-- The gesture gate (R77): a packet whose gesture code is not NO_GESTURE decodes to None whatever its other fields, and
NO_GESTURE is 0x00. The value is a choice, not in the source (notes/assumptions/11.md, D6). -/
def Obligations.GestureGate : Prop :=
  Config.noGesture = 0x00#8 ∧ (∀ p : Packet, p.p1 ≠ Config.noGesture → p.event = .noEvent) ∧
  ∀ (s : State) (p : Packet), s.cur = some p → p.p1 ≠ Config.noGesture →
    ∃ t, exec .decode s = .next t ∧ t.wires.event = .noEvent ∧
      t.history = s.history ++ [.outcome .unrecognizedGesture]

/-- EV_START, EV_MOVE and EV_END (R79, R80, R81): each delivers its event with the coordinates of its packet, which is the
event DECODE gives that packet, and changes nothing else. -/
def Obligations.EventClassesDeliver : Prop :=
  ∀ (s : State) (g : IgnoredBits) (x y : Coord),
    (exec (.evStart g x y) s = .next { s with wires := { s.wires with event := .startAt x y } } ∧
      (startPacket g x y).event = .startAt x y) ∧
    (exec (.evMove g x y) s = .next { s with wires := { s.wires with event := .moveAt x y } } ∧
      (movePacket g x y).event = .moveAt x y) ∧
    (exec (.evEnd g x y) s = .next { s with wires := { s.wires with event := .endAt x y } } ∧
      (endPacket g x y).event = .endAt x y)

/-- EV_NONE (R82): None, word 0, and the cause: UnrecognizedGesture where the gate rejects the packet, else
UnrecognizedPhaseCombination; nothing else changes. A well-formed EV_NONE is a packet that DECODE makes None of. -/
def Obligations.NoneClassDelivers : Prop :=
  ∀ (s : State) (p : Packet),
    (p.p1 ≠ Config.noGesture → exec (.evNone p) s = .next { s with
      wires := { s.wires with event := .noEvent, word := 0#32 }
      history := s.history ++ [.outcome .unrecognizedGesture] }) ∧
    (p.p1 = Config.noGesture → exec (.evNone p) s = .next { s with
      wires := { s.wires with event := .noEvent, word := 0#32 }
      history := s.history ++ [.outcome .unrecognizedPhaseCombination] }) ∧
    (Instr.wellFormed s.prev (.evNone p) = true → p.event = .noEvent)

/-- PACK and the four word shapes (R84): the word of each event as R84 writes it; nothing else changes but the recorded
outcome that an event was produced. The numbers of the words are a choice (notes/assumptions/12.md, D5). -/
def Obligations.PackWords : Prop :=
  ∀ (s : State) (x y : Coord),
    (exec .evwNone s = .next { s with wires := { s.wires with word := 0x00000000#32 } }) ∧
    (exec (.evwStart x y) s = .next { s with
      wires := { s.wires with word := 0x01000000#32 ||| (x.setWidth 32 <<< 12) ||| y.setWidth 32 }
      history := s.history ++ [.outcome (.eventProduced .startKind)] }) ∧
    (exec (.evwMove x y) s = .next { s with
      wires := { s.wires with word := 0x02000000#32 ||| (x.setWidth 32 <<< 12) ||| y.setWidth 32 }
      history := s.history ++ [.outcome (.eventProduced .moveKind)] }) ∧
    (exec (.evwEnd x y) s = .next { s with
      wires := { s.wires with word := 0x04000000#32 ||| (x.setWidth 32 <<< 12) ||| y.setWidth 32 }
      history := s.history ++ [.outcome (.eventProduced .endKind)] }) ∧
    (s.wires.event = .noEvent → exec .pack s = exec .evwNone s) ∧
    (s.wires.event = .startAt x y → exec .pack s = exec (.evwStart x y) s) ∧
    (s.wires.event = .moveAt x y → exec .pack s = exec (.evwMove x y) s) ∧
    (s.wires.event = .endAt x y → exec .pack s = exec (.evwEnd x y) s)

/-- PACK completes for every event and leaves its word, every register and every port as they were (R84, R87). -/
def Obligations.PackCompletes : Prop :=
  ∀ s : State, ∃ t, exec .pack s = .next t ∧ t.wires.word = s.wires.event.word ∧ SameRegisters s t ∧ SamePorts s t ∧
    t.cur = s.cur ∧ t.writeAnswers = s.writeAnswers ∧ t.readAnswers = s.readAnswers ∧ t.draws = s.draws ∧
    transfers t.history = transfers s.history ∧ responses t.history = responses s.history

/-! The poll. -/

/-- The outcome table of a poll (R93), as the host command READ_EVENT runs it (R92): it completes with a response in the same
step; the word, PREV, CUR, the answers used and the history in each of the eight lines; SEQ stays IDLE, R and the inputs
stay. That CUR holds no value after a failure follows R12 (notes/assumptions/5.md); the answers as scripts and the numbers of
the words are choices (notes/assumptions/2.md and 12.md). -/
def Obligations.PollOutcomeTable : Prop :=
  ∀ s : State, s.initDone = true → s.seq = .idle → ∃ t, exec .readEvent s = .next t ∧
    t.seq = .idle ∧ t.r = s.r ∧ t.pins = s.pins ∧ t.initDone = true ∧ t.writeAnswers = s.writeAnswers.tail ∧
    (s.writeAnswer = .fail → t.response = some 0x00000000#32 ∧ t.prev = s.prev ∧ t.cur = none ∧
      t.readAnswers = s.readAnswers ∧
      t.history = s.history ++ [.accepted .readEvent, regSelectEntry .fail, .outcome .busWriteFailure,
        .response 0x00000000#32]) ∧
    (s.writeAnswer = .ok → pollReadAnswer s = .fail → t.response = some 0x00000000#32 ∧ t.prev = s.prev ∧
      t.cur = none ∧ t.readAnswers = s.readAnswers.tail ∧
      t.history = s.history ++ [.accepted .readEvent, regSelectEntry .ok, packetReadEntry .fail,
        .outcome .busReadFailure, .response 0x00000000#32]) ∧
    ∀ p, s.writeAnswer = .ok → pollReadAnswer s = .ok p → ∃ w c, t.response = some w ∧ t.prev = p ∧ t.cur = some p ∧
      t.readAnswers = s.readAnswers.tail ∧
      t.history = s.history ++ [.accepted .readEvent, regSelectEntry .ok, packetReadEntry (.ok p), .outcome c,
        .response w] ∧
      (p = s.prev → w = 0x00000000#32 ∧ c = .duplicateFrame) ∧
      (p ≠ s.prev → p.gesture ≠ Config.noGesture → w = 0x00000000#32 ∧ c = .unrecognizedGesture) ∧
      (p ≠ s.prev → p.gesture = Config.noGesture → p.points = 1#8 → p.phase = 0x00#8 →
        w = 0x01000000#32 ||| (p.x.setWidth 32 <<< 12) ||| p.y.setWidth 32 ∧ c = .eventProduced .startKind) ∧
      (p ≠ s.prev → p.gesture = Config.noGesture → p.points = 1#8 → p.phase = 0x80#8 →
        w = 0x02000000#32 ||| (p.x.setWidth 32 <<< 12) ||| p.y.setWidth 32 ∧ c = .eventProduced .moveKind) ∧
      (p ≠ s.prev → p.gesture = Config.noGesture → p.points = 0#8 → p.phase = 0x40#8 →
        w = 0x04000000#32 ||| (p.x.setWidth 32 <<< 12) ||| p.y.setWidth 32 ∧ c = .eventProduced .endKind) ∧
      (p ≠ s.prev → p.gesture = Config.noGesture → ¬ (p.points = 1#8 ∧ (p.phase = 0x00#8 ∨ p.phase = 0x80#8)) →
        ¬ (p.points = 0#8 ∧ p.phase = 0x40#8) → w = 0x00000000#32 ∧ c = .unrecognizedPhaseCombination)

/-- A packet once read is silent until another one is read (R75 (1), (2), (3)): if the j-th poll reads p and no poll up to the
k-th reads anything else, failed polls in between or not, the k-th poll's word is 0. -/
def Obligations.RepeatedPacketIsSilent : Prop :=
  ∀ (s : State) (p : Packet) (j k : Nat), j < k →
    (afterPoll^[j] s).writeAnswer = .ok → pollReadAnswer (afterPoll^[j] s) = .ok p →
    (∀ i, j < i → i ≤ k → (afterPoll^[i] s).writeAnswer = .ok → ∀ q, pollReadAnswer (afterPoll^[i] s) = .ok q → q = p) →
    wordAt k s = 0#32

/-- Only the last stored packet counts (R75 (4)): of the packets A, B, A with A ≠ B, the third is decoded and reported. -/
def Obligations.AlternatingPacketIsReported : Prop :=
  ∀ (s : State) (a b : Packet), a ≠ b →
    (∀ i, i ≤ 2 → (afterPoll^[i] s).writeAnswer = .ok) →
    pollReadAnswer s = .ok a → pollReadAnswer (afterPoll^[1] s) = .ok b → pollReadAnswer (afterPoll^[2] s) = .ok a →
    wordAt 2 s = a.event.word ∧ (afterPoll^[3] s).prev = a

/-- A non-zero word means that both transfers succeeded, that the packet was not PREV, and that PREV now holds the packet the
word was decoded from (R94 (3), R88). -/
def Obligations.NonzeroWordIsFreshEvent : Prop :=
  ∀ s : State, pollWord s ≠ 0#32 → ∃ p, s.writeAnswer = .ok ∧ pollReadAnswer s = .ok p ∧ p ≠ s.prev ∧
    (poll s).prev = p ∧ pollWord s = p.event.word ∧ p.event ≠ .noEvent

/-- A poll depends on PREV and on the environment's answers only: not on R, on SEQ, on CUR, on the inputs or on what went
before (R94 (5), R37). The clause on CUR
rests, for a poll that fails, on CUR holding no value then (R12; notes/assumptions/5.md). -/
def Obligations.PollDependsOnPrevAndAnswers : Prop :=
  ∀ s t : State, s.prev = t.prev → s.writeAnswers = t.writeAnswers → s.readAnswers = t.readAnswers → s.draws = t.draws →
    pollWord s = pollWord t ∧ (poll s).prev = (poll t).prev ∧ (poll s).cur = (poll t).cur ∧
    (poll s).writeAnswers = (poll t).writeAnswers ∧ (poll s).readAnswers = (poll t).readAnswers

/-- The host cannot tell a dead bus from a repeating controller (R65, R112): from the same registers, a READ_EVENT whose write
fails and one whose read fails or delivers the previous packet give the same response and leave the same PREV, R and SEQ. -/
def Obligations.FailuresLookAlike : Prop :=
  ∀ s t : State, s.initDone = true → t.initDone = true → s.seq = .idle → t.seq = .idle → s.prev = t.prev → s.r = t.r →
    s.writeAnswer = .fail → t.writeAnswer = .ok → (pollReadAnswer t = .fail ∨ pollReadAnswer t = .ok t.prev) →
    ∃ s' t', exec .readEvent s = .next s' ∧ exec .readEvent t = .next t' ∧
      s'.response = t'.response ∧ s'.prev = t'.prev ∧ s'.r = t'.r ∧ s'.seq = t'.seq

/-! The Click Sequencer. -/

/-- Acceptance of AWAIT_CLICK (R96): R is cleared and SEQ becomes DRAIN1; no poll, no response, PREV unchanged, `ready` 0; and
`ready` comes back in no step but the DONE step (a block reset apart). -/
def Obligations.AwaitClickAccepted : Prop :=
  (∀ s : State, s.initDone = true → s.seq = .idle →
    exec .awaitClick s = .next { s with
      r := 0x00000000#32, seq := .drain1, history := s.history ++ [.accepted .awaitClick] }) ∧
  (∀ s t : State, exec .awaitClick s = .next t → s.ready = true → t.ready = false) ∧
  ∀ s t : State, step s = .next t → s.sample.platform ≠ .blockReset → s.ready = false → t.ready = true → s.seq = .done

/-- SEQ_DRAIN1 (R97): one poll; the word 0 leads to AWAIT_START, any other word is discarded and DRAIN1 stays. -/
def Obligations.FirstDrainStep : Prop :=
  ∀ s : State, s.initDone = true → ∃ t, exec .seqDrain1 s = .next t ∧
    t = { poll s with seq := if pollWord s = 0#32 then .awaitStart else .drain1, wires := .quiet } ∧
    t.r = s.r ∧ SamePorts s t ∧ polls t.history = polls s.history + 1

/-- SEQ_AWAIT_START (R98): one poll; a Start word leads to AWAIT_END, any other is discarded and AWAIT_START stays.
The number of the tag is a choice (notes/assumptions/12.md, D5). -/
def Obligations.AwaitStartStep : Prop :=
  ∀ s : State, s.initDone = true → ∃ t, exec .seqAwaitStart s = .next t ∧
    t = { poll s with
      seq := if pollWord s &&& 0x01000000#32 ≠ 0#32 then .awaitEnd else .awaitStart, wires := .quiet } ∧
    t.r = s.r ∧ SamePorts s t ∧ polls t.history = polls s.history + 1

/-- SEQ_AWAIT_END (R99): one poll; an End word goes whole into R and leads to DRAIN2, any other is discarded, R unchanged.
The number of the tag is a choice (notes/assumptions/12.md, D5). -/
def Obligations.AwaitEndStep : Prop :=
  ∀ s : State, s.initDone = true → ∃ t, exec .seqAwaitEnd s = .next t ∧
    (pollWord s &&& 0x04000000#32 ≠ 0#32 →
      t = { poll s with r := pollWord s, seq := .drain2, wires := .quiet }) ∧
    (pollWord s &&& 0x04000000#32 = 0#32 → t = { poll s with seq := .awaitEnd, wires := .quiet } ∧ t.r = s.r) ∧
    SamePorts s t ∧ polls t.history = polls s.history + 1

/-- SEQ_DRAIN2 (R100): one poll; the word 0 leads to DONE, any other is discarded and DRAIN2 stays; R unchanged. -/
def Obligations.SecondDrainStep : Prop :=
  ∀ s : State, s.initDone = true → ∃ t, exec .seqDrain2 s = .next t ∧
    t = { poll s with seq := if pollWord s = 0#32 then .done else .drain2, wires := .quiet } ∧
    t.r = s.r ∧ SamePorts s t ∧ polls t.history = polls s.history + 1

/-- SEQ_DONE (R101): R is the response and SEQ becomes IDLE; no poll, R keeps its value, nothing else changes. -/
def Obligations.DoneStepResponds : Prop :=
  ∀ s : State, exec .seqDone s = .next { s with
    response := some s.r, seq := .idle, history := s.history ++ [.response s.r] }

/-- The whole transition table of SEQ (R102), for every step under the launch premise without a platform event: the next state,
R, the response, and that a step polls once in the four polling states and on READ_EVENT, and else not. That a
response of the step before is gone is the model's choice (notes/assumptions/8.md). -/
def Obligations.TransitionTable : Prop :=
  ∀ s : State, s.initDone = true → s.sample.platform = .quiet → ∃ t, step s = .next t ∧
    (s.seq = .idle → (s.sample.cmd = 0b00#2 ∨ s.sample.cmd = 0b11#2) → t.seq = .idle ∧ t.r = s.r ∧ t.response = none ∧
      polls t.history = polls s.history) ∧
    (s.seq = .idle → s.sample.cmd = 0b01#2 → t.seq = .idle ∧ t.r = s.r ∧ t.response = some (pollWord s) ∧
      polls t.history = polls s.history + 1) ∧
    (s.seq = .idle → s.sample.cmd = 0b10#2 → t.seq = .drain1 ∧ t.r = 0#32 ∧ t.response = none ∧
      polls t.history = polls s.history) ∧
    (s.seq = .drain1 → t.r = s.r ∧ t.response = none ∧ polls t.history = polls s.history + 1 ∧
      ((kindOf (pollWord s) = some .noneKind ∧ t.seq = .awaitStart) ∨
        ((kindOf (pollWord s) = some .startKind ∨ kindOf (pollWord s) = some .moveKind ∨
          kindOf (pollWord s) = some .endKind) ∧ t.seq = .drain1))) ∧
    (s.seq = .awaitStart → t.r = s.r ∧ t.response = none ∧ polls t.history = polls s.history + 1 ∧
      ((kindOf (pollWord s) = some .startKind ∧ t.seq = .awaitEnd) ∨
        ((kindOf (pollWord s) = some .noneKind ∨ kindOf (pollWord s) = some .moveKind ∨
          kindOf (pollWord s) = some .endKind) ∧ t.seq = .awaitStart))) ∧
    (s.seq = .awaitEnd → t.response = none ∧ polls t.history = polls s.history + 1 ∧
      ((kindOf (pollWord s) = some .endKind ∧ t.seq = .drain2 ∧ t.r = pollWord s) ∨
        ((kindOf (pollWord s) = some .noneKind ∨ kindOf (pollWord s) = some .startKind ∨
          kindOf (pollWord s) = some .moveKind) ∧ t.seq = .awaitEnd ∧ t.r = s.r))) ∧
    (s.seq = .drain2 → t.r = s.r ∧ t.response = none ∧ polls t.history = polls s.history + 1 ∧
      ((kindOf (pollWord s) = some .noneKind ∧ t.seq = .done) ∨
        ((kindOf (pollWord s) = some .startKind ∨ kindOf (pollWord s) = some .moveKind ∨
          kindOf (pollWord s) = some .endKind) ∧ t.seq = .drain2))) ∧
    (s.seq = .done → t.seq = .idle ∧ t.r = s.r ∧ t.response = some s.r ∧ polls t.history = polls s.history)

/-- SEQ only moves forward or stays: no backward edge, no abort edge, no timeout edge (R102), in every step without a platform
event. -/
def Obligations.SequencerOnlyMovesForward : Prop :=
  ∀ s t : State, step s = .next t → s.sample.platform = .quiet → seqMayFollow s.seq t.seq = true

/-- A command presented while the block is busy is not looked at (R42): whatever code the port shows, the step is the same
(notes/assumptions/4.md). -/
def Obligations.BusyIgnoresCommand : Prop :=
  ∀ (s : State) (c d : BitVec 2) (e : PlatformEvent) (rest : List PortSample), s.seq ≠ .idle →
    step { s with pins := ⟨c, e⟩ :: rest } = step { s with pins := ⟨d, e⟩ :: rest }

/-- A bus that fails every write never completes an AWAIT_CLICK (R103, P4): after the acceptance and any number n of polls the
block is still busy (in AWAIT_START from the second poll on), no response has been given, PREV is unchanged, R is 0, and the
transfers are n failed writes and no read. That the port shows no response after these steps is the model's choice
(notes/assumptions/8.md). -/
def Obligations.DeadBusNeverResponds : Prop :=
  ∀ (s : State) (n : Nat) (rest : List WriteAnswer), s.initDone = true → s.seq = .idle → s.sample.cmd = 0b10#2 →
    QuietPlatform s → s.writeAnswers = List.replicate n .fail ++ rest →
    ∃ t, run (n + 1) s = .next t ∧ t.seq = (if n = 0 then .drain1 else .awaitStart) ∧ t.response = none ∧
      t.prev = s.prev ∧ t.r = 0#32 ∧ responses t.history = responses s.history ∧
      transfers t.history = transfers s.history ++
        List.replicate n (.write Config.touchAddress [0x00#8] Config.busTimeout .fail)

/-- Each polling state can be occupied for any number of steps (R103): it is left only by its own exit word. -/
def Obligations.PollingStateWaitsForItsWord : Prop :=
  ∀ (s : State) (n : Nat), s.initDone = true → QuietPlatform s →
    ((s.seq = .drain1 ∨ s.seq = .drain2) → (∀ k, k < n → wordAt k s ≠ 0#32) →
      ∃ t, run n s = .next t ∧ t.seq = s.seq ∧ t.r = s.r ∧ polls t.history = polls s.history + n ∧
        responses t.history = responses s.history) ∧
    (s.seq = .awaitStart → (∀ k, k < n → kindOf (wordAt k s) ≠ some .startKind) →
      ∃ t, run n s = .next t ∧ t.seq = s.seq ∧ t.r = s.r ∧ polls t.history = polls s.history + n ∧
        responses t.history = responses s.history) ∧
    (s.seq = .awaitEnd → (∀ k, k < n → kindOf (wordAt k s) ≠ some .endKind) →
      ∃ t, run n s = .next t ∧ t.seq = s.seq ∧ t.r = s.r ∧ polls t.history = polls s.history + n ∧
        responses t.history = responses s.history)

/-- AWAIT_CLICK after its acceptance (R104): if a is the first poll with the word 0, b the first after it with a Start, c the
first after that with an End and d the first after that with the word 0 (polls counted from 0), the block responds once, with
the word of poll c, after exactly d + 1 polls, and is then idle. The response port is notes/assumptions/8.md. -/
def Obligations.AwaitClickRespondsOnce : Prop :=
  ∀ (s : State) (a b c d : Nat), s.initDone = true → QuietPlatform s → s.seq = .drain1 →
    (∀ k, k < a → wordAt k s ≠ 0#32) → wordAt a s = 0#32 →
    a < b → (∀ k, a < k → k < b → kindOf (wordAt k s) ≠ some .startKind) → kindOf (wordAt b s) = some .startKind →
    b < c → (∀ k, b < k → k < c → kindOf (wordAt k s) ≠ some .endKind) → kindOf (wordAt c s) = some .endKind →
    c < d → (∀ k, c < k → k < d → wordAt k s ≠ 0#32) → wordAt d s = 0#32 →
    (∀ k, k ≤ d → ∃ u, run (k + 1) s = .next u ∧ u.ready = false ∧ responses u.history = responses s.history) ∧
    ∃ t, run (d + 2) s = .next t ∧ t.seq = .idle ∧ t.response = some (wordAt c s) ∧
      responses t.history = responses s.history ++ [wordAt c s] ∧ polls t.history = polls s.history + (d + 1)

/-! Invariants and rules of the whole machine. -/

/-- The reset state meets every invariant stated below. -/
def Obligations.ResetMeetsInvariants : Prop :=
  WiresQuiet State.reset ∧ EndCaptured State.reset ∧ ResponsesShaped State.reset ∧ PrevIsLastPacket State.reset ∧
  CommandsAnswered State.reset ∧ BusLegal State.reset

/-- Every step leaves nothing of a poll's stages behind (R17, R21). -/
def Obligations.StepKeepsWiresQuiet : Prop :=
  ∀ s t : State, WiresQuiet s → step s = .next t → WiresQuiet t

/-- From AWAIT_END on R holds an End word, so AWAIT_CLICK responds with an End word and never with 0, and every word given to
the host has one of the four shapes (R52, R108): every step keeps this. -/
def Obligations.StepKeepsEndCapturedAndResponsesShaped : Prop :=
  (∀ s t : State, EndCaptured s ∧ ResponsesShaped s → step s = .next t → EndCaptured t ∧ ResponsesShaped t) ∧
  ∀ s t : State, EndCaptured s → s.seq = .done → s.sample.platform = .quiet → step s = .next t →
    ∃ w, t.response = some w ∧ IsEndWord w ∧ w ≠ 0#32 ∧ kindOf w = some .endKind

/-- PREV is the last packet successfully read since the last block reset, or its reset value if there has been none (R93):
every step keeps this. For a block reset it rests on the history beginning anew there, the model's choice
(notes/assumptions/6.md). -/
def Obligations.StepKeepsPrevIsLastPacket : Prop :=
  ∀ s t : State, PrevIsLastPacket s → step s = .next t → PrevIsLastPacket t

/-- Every command accepted since the last block reset has had exactly one response, but for the one in progress (R43): every
step keeps this. A block reset abandons a command without a response (R125), and the statement holds there because the
history begins anew, the model's choice (notes/assumptions/6.md). -/
def Obligations.StepKeepsCommandsAnswered : Prop :=
  ∀ s t : State, CommandsAnswered s → step s = .next t → CommandsAnswered t

/-- Only the two constant transfers are ever issued, and a read directly after a write that answered ok and only then (R26,
R35, R61, R62): every step keeps this. -/
def Obligations.StepKeepsBusLegal : Prop :=
  ∀ s t : State, BusLegal s → step s = .next t → BusLegal t

/-- Nothing faults (R110): from no state does an operation or a step end in a fault, and under the launch premise every
operation completes, on every operand.
That rests on the transfers answering (R29; notes/assumptions/13.md), on DUP_FILTER and DECODE changing nothing where CUR is
empty (R65, R90; notes/assumptions/5.md and 17.md) and on READ_EVENT and AWAIT_CLICK changing nothing while busy (R42;
notes/assumptions/4.md). -/
def Obligations.StepNeverFaults : Prop :=
  (∀ (s : State) (f : Fault), step s ≠ .fault f) ∧
  (∀ (i : Instr) (s : State) (f : Fault), exec i s ≠ .fault f) ∧
  ∀ (i : Instr) (s : State), s.initDone = true → ∃ t, exec i s = .next t

/-- Under the launch premise every step completes and the premise stays (R29, R92, R110). That every transfer answers is
notes/assumptions/13.md. -/
def Obligations.StepCompletesAfterInit : Prop :=
  ∀ s : State, s.initDone = true → ∃ t, step s = .next t ∧ t.initDone = true

/-- Who writes which register (R11, R12, R13): PREV only DUP_FILTER and the operations that poll, CUR only POLL_FRAME and those,
R only AWAIT_CLICK's acceptance and AWAIT_END, SEQ only AWAIT_CLICK's acceptance and the sequencer's steps. -/
def Obligations.RegisterWriters : Prop :=
  ∀ (i : Instr) (s t : State), exec i s = .next t →
    (t.prev ≠ s.prev → i = .dupFilter ∨ i = .readEvent ∨ i = .seqIdle ∨ i = .seqDrain1 ∨ i = .seqAwaitStart ∨
      i = .seqAwaitEnd ∨ i = .seqDrain2) ∧
    (t.cur ≠ s.cur → i = .pollFrame ∨ i = .readEvent ∨ i = .seqIdle ∨ i = .seqDrain1 ∨ i = .seqAwaitStart ∨
      i = .seqAwaitEnd ∨ i = .seqDrain2) ∧
    (t.r ≠ s.r → i = .awaitClick ∨ i = .seqIdle ∨ i = .seqAwaitEnd) ∧
    (t.seq ≠ s.seq → i = .awaitClick ∨ i = .seqIdle ∨ i = .seqDrain1 ∨ i = .seqAwaitStart ∨ i = .seqAwaitEnd ∨
      i = .seqDrain2 ∨ i = .seqDone) ∧
    t.initDone = s.initDone ∧ t.pins = s.pins

/-- The first poll after reset (R126): seven zero bytes give the word 0, any other packet is stored, decoded and reported.
That the launch premise holds in the reset state is the model's choice (notes/assumptions/1.md). -/
def Obligations.FirstPacketAfterReset : Prop :=
  ∀ (p : Packet) (w : List WriteAnswer) (r : List ReadAnswer),
    ∃ t, exec .readEvent { State.reset with writeAnswers := .ok :: w, readAnswers := .ok p :: r } = .next t ∧
      t.prev = p ∧ (p = Packet.zero → t.response = some 0#32) ∧ (p ≠ Packet.zero → t.response = some p.event.word)

/-- What withFetchWord places, the next step runs (the model's own convention, notes/assumptions/15.md and 16.md): a command
code on the port, a sequencer state in SEQ, a packet as the answer of a poll, an event word as a poll's response. -/
def Obligations.PlacedWordRuns : Prop :=
  (∀ (s : State) (k : Nat), k < 4 →
    step (s.withFetchWord 2 k) =
      mapNext State.advance (exec (decodeCmd (BitVec.ofNat 2 k)) (s.withFetchWord 2 k).takeResponse)) ∧
  (∀ (s : State) (k : Nat) (i : Instr), k < 6 → decodeTableWord 3 k = some i →
    step (s.withFetchWord 3 k) = mapNext State.advance (exec i (s.withFetchWord 3 k).takeResponse)) ∧
  (∀ (s : State) (p : Packet), p ≠ s.prev →
    ∃ t, step (s.withFetchWord 56 p.toPkt.toNat) = .next t ∧ t.prev = p ∧ t.response = some p.event.word) ∧
  (∀ (s : State) (e : NormalizedEvent),
    ∃ t, step (s.withFetchWord 32 e.word.toNat) = .next t ∧ t.response = some e.word)
end

