-- ==== Sys2Proof/Laws/Operands.lean ====
section
/-! SUPPORT. Lemmas about the operand forms: packets as numbers, and the fields of a packet put together from its fields. -/

namespace Sys2Proof

/-- The 56-bit form loses nothing of a packet (R6). -/
@[simp] theorem Packet.ofPkt_toPkt (p : Packet) : Packet.ofPkt p.toPkt = p := by
  obtain ⟨p0, p1, p2, p3, p4, p5, p6⟩ := p
  simp only [Packet.ofPkt, Packet.toPkt, Packet.mk.injEq]
  refine ⟨?_, ?_, ?_, ?_, ?_, ?_, ?_⟩ <;>
  · ext i hi
    interval_cases i <;> simp

/-- Every 56-bit number is the form of a packet (R6). -/
@[simp] theorem Packet.toPkt_ofPkt (w : BitVec 56) : (Packet.ofPkt w).toPkt = w := by
  simp only [Packet.ofPkt, Packet.toPkt]
  ext i hi
  interval_cases i <;> simp

/-- A mask goes under a bitwise or. -/
theorem or_and_mask {n : Nat} (a b m : BitVec n) : (a ||| b) &&& m = (a &&& m) ||| (b &&& m) := by
  ext i hi
  simp [Bool.and_or_distrib_right]

/-! The mask of the classes 2 to 4 (R49), byte by byte. -/

theorem classMask_p0 : ∀ b : Byte, (b.setWidth 56 <<< 48) &&& 0x00FF0FC0000000#56 = 0#56 := by
  decide +kernel

theorem classMask_p1 : ∀ b : Byte, (b.setWidth 56 <<< 40) &&& 0x00FF0FC0000000#56 = b.setWidth 56 <<< 40 := by
  decide +kernel

theorem classMask_p2 : ∀ b : Byte, (b.setWidth 56 <<< 32) &&& 0x00FF0FC0000000#56 = (b &&& 0x0F#8).setWidth 56 <<< 32 := by
  decide +kernel

theorem classMask_p3 : ∀ b : Byte, (b.setWidth 56 <<< 24) &&& 0x00FF0FC0000000#56 = (b &&& 0xC0#8).setWidth 56 <<< 24 := by
  decide +kernel

theorem classMask_p4 : ∀ b : Byte, (b.setWidth 56 <<< 16) &&& 0x00FF0FC0000000#56 = 0#56 := by
  decide +kernel

theorem classMask_p5 : ∀ b : Byte, (b.setWidth 56 <<< 8) &&& 0x00FF0FC0000000#56 = 0#56 := by
  decide +kernel

theorem classMask_p6 : ∀ b : Byte, (b.setWidth 56) &&& 0x00FF0FC0000000#56 = 0#56 := by
  decide +kernel

/-- What the mask of the classes 2 to 4 leaves of a packet: gesture, points and phase in their places (R49). -/
theorem Packet.toPkt_and_mask (p : Packet) :
    p.toPkt &&& 0x00FF0FC0000000#56 =
      (p.gesture.setWidth 56 <<< 40) ||| (p.points.setWidth 56 <<< 32) ||| (p.phase.setWidth 56 <<< 24) := by
  simp only [Packet.toPkt, Packet.gesture, Packet.points, Packet.phase, or_and_mask, classMask_p0, classMask_p1, classMask_p2, classMask_p3, classMask_p4, classMask_p5, classMask_p6,
    BitVec.zero_or, BitVec.or_zero]

section build

variable (gest : Byte) (pts : BitVec 4) (ph : BitVec 2) (g : IgnoredBits) (x y : Coord)

@[simp] theorem Packet.build_gesture : (Packet.build gest pts ph g x y).gesture = gest := rfl

@[simp] theorem Packet.build_points : (Packet.build gest pts ph g x y).points = pts.setWidth 8 := by
  simp only [Packet.build, Packet.points]
  ext i hi
  interval_cases i <;> simp

@[simp] theorem Packet.build_phase : (Packet.build gest pts ph g x y).phase = ph.setWidth 8 <<< 6 := by
  simp only [Packet.build, Packet.phase]
  ext i hi
  interval_cases i <;> simp

@[simp] theorem Packet.build_x : (Packet.build gest pts ph g x y).x = x := by
  simp only [Packet.build, Packet.x]
  ext i hi
  interval_cases i <;> simp

@[simp] theorem Packet.build_y : (Packet.build gest pts ph g x y).y = y := by
  simp only [Packet.build, Packet.y]
  ext i hi
  interval_cases i <;> simp

@[simp] theorem Packet.build_ignored : (Packet.build gest pts ph g x y).ignored = g := by
  obtain ⟨b0, b2hi, b3mid, b5hi⟩ := g
  simp only [Packet.build, Packet.ignored, IgnoredBits.mk.injEq, true_and]
  refine ⟨?_, ?_, ?_⟩ <;>
  · ext i hi
    interval_cases i <;> simp

end build

end Sys2Proof
end

