-- ==== Sys2Proof/Laws/PerInstr.lean ====
section
/-! SUPPORT. Per-instruction statements. Family TableAgreement: the encoder's code of every operation is of its row's format in
spec/opcode_table.json, and under its row's mask it is its row's match. -/

namespace Sys2Proof.Laws.TableAgreement

/-- The bits of a code as the table numbers them; a read transfer and a stage have no bits of their own (mask 0). -/
def bits : Code → Nat
  | .cmd c => c.toNat
  | .busWrite data => (data.headD 0#8).toNat
  | .busRead _ => 0
  | .stage _ => 0
  | .pkt w => w.toNat
  | .evw w => w.toNat
  | .seq c => c.toNat

/-- A row of the table: its format, its mask and its match. -/
structure Row where
  format : Format
  mask   : Nat
  word   : Nat

/-- The rows of spec/opcode_table.json; PKT_DUP's match is PREV. -/
def row (prev : Packet) : Instr → Row
  | .cmdNone => ⟨.cmd, 0x3, 0x0⟩
  | .readEvent => ⟨.cmd, 0x3, 0x1⟩
  | .awaitClick => ⟨.cmd, 0x3, 0x2⟩
  | .cmdRsvd => ⟨.cmd, 0x3, 0x3⟩
  | .busRegsel => ⟨.bus, 0xFF, 0x00⟩
  | .busRead7 => ⟨.bus, 0x0, 0x0⟩
  | .pollFrame => ⟨.stage, 0x0, 0x0⟩
  | .dupFilter => ⟨.stage, 0x0, 0x0⟩
  | .decode => ⟨.stage, 0x0, 0x0⟩
  | .pack => ⟨.stage, 0x0, 0x0⟩
  | .pktDup => ⟨.pkt, 0xFFFFFFFFFFFFFF, prev.toPkt.toNat⟩
  | .evStart _ _ _ => ⟨.pkt, 0x00FF0FC0000000, 0x00000100000000⟩
  | .evMove _ _ _ => ⟨.pkt, 0x00FF0FC0000000, 0x00000180000000⟩
  | .evEnd _ _ _ => ⟨.pkt, 0x00FF0FC0000000, 0x00000040000000⟩
  | .evNone _ => ⟨.pkt, 0x0, 0x0⟩
  | .evwNone => ⟨.evw, 0xFFFFFFFF, 0x00000000⟩
  | .evwStart _ _ => ⟨.evw, 0xFF000000, 0x01000000⟩
  | .evwMove _ _ => ⟨.evw, 0xFF000000, 0x02000000⟩
  | .evwEnd _ _ => ⟨.evw, 0xFF000000, 0x04000000⟩
  | .seqIdle => ⟨.seq, 0x7, 0x0⟩
  | .seqDrain1 => ⟨.seq, 0x7, 0x1⟩
  | .seqAwaitStart => ⟨.seq, 0x7, 0x2⟩
  | .seqAwaitEnd => ⟨.seq, 0x7, 0x3⟩
  | .seqDrain2 => ⟨.seq, 0x7, 0x4⟩
  | .seqDone => ⟨.seq, 0x7, 0x5⟩

/-- The code of `i` is of its row's format and matches its row's pattern. -/
def Statement (i : Instr) : Prop :=
  ∀ prev : Packet, (encode prev i).format = (row prev i).format ∧
    bits (encode prev i) &&& (row prev i).mask = (row prev i).word

theorem cmdNone : Statement .cmdNone := fun _ => by simp [bits, encode, row, Code.format]
theorem readEvent : Statement .readEvent := fun _ => by simp [bits, encode, row, Code.format]
theorem awaitClick : Statement .awaitClick := fun _ => by simp [bits, encode, row, Code.format]
theorem cmdRsvd : Statement .cmdRsvd := fun _ => by simp [bits, encode, row, Code.format]
theorem busRegsel : Statement .busRegsel := fun _ => by simp [bits, encode, row, Code.format]
theorem busRead7 : Statement .busRead7 := fun _ => by simp [bits, encode, row, Code.format]
theorem pollFrame : Statement .pollFrame := fun _ => by simp [bits, encode, row, Code.format]
theorem dupFilter : Statement .dupFilter := fun _ => by simp [bits, encode, row, Code.format]
theorem decode : Statement .decode := fun _ => by simp [bits, encode, row, Code.format]
theorem pack : Statement .pack := fun _ => by simp [bits, encode, row, Code.format]

theorem pktDup : Statement .pktDup := fun prev => by
  refine ⟨rfl, ?_⟩
  have h : prev.toPkt &&& 0xFFFFFFFFFFFFFF#56 = prev.toPkt := by
    ext i hi
    interval_cases i <;> simp
  exact congrArg BitVec.toNat h

theorem evStart (g : IgnoredBits) (x y : Coord) : Statement (.evStart g x y) := fun _ => by
  refine ⟨rfl, ?_⟩
  have h : (startPacket g x y).toPkt &&& 0x00FF0FC0000000#56 = 0x00000100000000#56 := by
    rw [Packet.toPkt_and_mask]
    simp [startPacket, Config.noGesture, Config.phasePressDown]
  exact congrArg BitVec.toNat h

theorem evMove (g : IgnoredBits) (x y : Coord) : Statement (.evMove g x y) := fun _ => by
  refine ⟨rfl, ?_⟩
  have h : (movePacket g x y).toPkt &&& 0x00FF0FC0000000#56 = 0x00000180000000#56 := by
    rw [Packet.toPkt_and_mask]
    simp [movePacket, Config.noGesture, Config.phaseContact]
  exact congrArg BitVec.toNat h

theorem evEnd (g : IgnoredBits) (x y : Coord) : Statement (.evEnd g x y) := fun _ => by
  refine ⟨rfl, ?_⟩
  have h : (endPacket g x y).toPkt &&& 0x00FF0FC0000000#56 = 0x00000040000000#56 := by
    rw [Packet.toPkt_and_mask]
    simp [endPacket, Config.noGesture, Config.phaseLiftUp]
  exact congrArg BitVec.toNat h

theorem evNone (p : Packet) : Statement (.evNone p) := fun _ => by simp [bits, encode, row, Code.format]

theorem evwNone : Statement .evwNone := fun _ => by simp [bits, encode, row, Code.format]

theorem evwStart (x y : Coord) : Statement (.evwStart x y) := fun _ => by
  refine ⟨rfl, ?_⟩
  have h : (0x01000000#32 ||| (x.setWidth 32 <<< 12) ||| y.setWidth 32) &&& 0xFF000000#32 = 0x01000000#32 := by
    ext i hi
    interval_cases i <;> simp
  exact congrArg BitVec.toNat h

theorem evwMove (x y : Coord) : Statement (.evwMove x y) := fun _ => by
  refine ⟨rfl, ?_⟩
  have h : (0x02000000#32 ||| (x.setWidth 32 <<< 12) ||| y.setWidth 32) &&& 0xFF000000#32 = 0x02000000#32 := by
    ext i hi
    interval_cases i <;> simp
  exact congrArg BitVec.toNat h

theorem evwEnd (x y : Coord) : Statement (.evwEnd x y) := fun _ => by
  refine ⟨rfl, ?_⟩
  have h : (0x04000000#32 ||| (x.setWidth 32 <<< 12) ||| y.setWidth 32) &&& 0xFF000000#32 = 0x04000000#32 := by
    ext i hi
    interval_cases i <;> simp
  exact congrArg BitVec.toNat h

theorem seqIdle : Statement .seqIdle := fun _ => by simp [bits, encode, row, Code.format]
theorem seqDrain1 : Statement .seqDrain1 := fun _ => by simp [bits, encode, row, Code.format]
theorem seqAwaitStart : Statement .seqAwaitStart := fun _ => by simp [bits, encode, row, Code.format]
theorem seqAwaitEnd : Statement .seqAwaitEnd := fun _ => by simp [bits, encode, row, Code.format]
theorem seqDrain2 : Statement .seqDrain2 := fun _ => by simp [bits, encode, row, Code.format]
theorem seqDone : Statement .seqDone := fun _ => by simp [bits, encode, row, Code.format]

end Sys2Proof.Laws.TableAgreement
end

