-- ==== Sys2Proof/Laws/State.lean ====
section
/-! SUPPORT. One lemma per field per update: what each shared operation of the machine leaves in each field of State. -/

namespace Sys2Proof.Machine

variable (s : State)

/-! `State.log`. -/

@[simp] theorem State.log_prev (e : HistoryEvent) : (s.log e).prev = s.prev := rfl
@[simp] theorem State.log_cur (e : HistoryEvent) : (s.log e).cur = s.cur := rfl
@[simp] theorem State.log_r (e : HistoryEvent) : (s.log e).r = s.r := rfl
@[simp] theorem State.log_seq (e : HistoryEvent) : (s.log e).seq = s.seq := rfl
@[simp] theorem State.log_response (e : HistoryEvent) : (s.log e).response = s.response := rfl
@[simp] theorem State.log_wires (e : HistoryEvent) : (s.log e).wires = s.wires := rfl
@[simp] theorem State.log_initDone (e : HistoryEvent) : (s.log e).initDone = s.initDone := rfl
@[simp] theorem State.log_pins (e : HistoryEvent) : (s.log e).pins = s.pins := rfl
@[simp] theorem State.log_writeAnswers (e : HistoryEvent) : (s.log e).writeAnswers = s.writeAnswers := rfl
@[simp] theorem State.log_readAnswers (e : HistoryEvent) : (s.log e).readAnswers = s.readAnswers := rfl
@[simp] theorem State.log_draws (e : HistoryEvent) : (s.log e).draws = s.draws := rfl
@[simp] theorem State.log_history (e : HistoryEvent) : (s.log e).history = s.history ++ [e] := rfl

/-! `State.respond`. -/

@[simp] theorem State.respond_prev (w : EventWord) : (s.respond w).prev = s.prev := rfl
@[simp] theorem State.respond_cur (w : EventWord) : (s.respond w).cur = s.cur := rfl
@[simp] theorem State.respond_r (w : EventWord) : (s.respond w).r = s.r := rfl
@[simp] theorem State.respond_seq (w : EventWord) : (s.respond w).seq = s.seq := rfl
@[simp] theorem State.respond_response (w : EventWord) : (s.respond w).response = some w := rfl
@[simp] theorem State.respond_wires (w : EventWord) : (s.respond w).wires = s.wires := rfl
@[simp] theorem State.respond_initDone (w : EventWord) : (s.respond w).initDone = s.initDone := rfl
@[simp] theorem State.respond_pins (w : EventWord) : (s.respond w).pins = s.pins := rfl
@[simp] theorem State.respond_writeAnswers (w : EventWord) : (s.respond w).writeAnswers = s.writeAnswers := rfl
@[simp] theorem State.respond_readAnswers (w : EventWord) : (s.respond w).readAnswers = s.readAnswers := rfl
@[simp] theorem State.respond_draws (w : EventWord) : (s.respond w).draws = s.draws := rfl
@[simp] theorem State.respond_history (w : EventWord) : (s.respond w).history = s.history ++ [.response w] := rfl

/-! `State.takeResponse`. -/

@[simp] theorem State.takeResponse_prev : s.takeResponse.prev = s.prev := rfl
@[simp] theorem State.takeResponse_cur : s.takeResponse.cur = s.cur := rfl
@[simp] theorem State.takeResponse_r : s.takeResponse.r = s.r := rfl
@[simp] theorem State.takeResponse_seq : s.takeResponse.seq = s.seq := rfl
@[simp] theorem State.takeResponse_response : s.takeResponse.response = none := rfl
@[simp] theorem State.takeResponse_wires : s.takeResponse.wires = s.wires := rfl
@[simp] theorem State.takeResponse_initDone : s.takeResponse.initDone = s.initDone := rfl
@[simp] theorem State.takeResponse_pins : s.takeResponse.pins = s.pins := rfl
@[simp] theorem State.takeResponse_writeAnswers : s.takeResponse.writeAnswers = s.writeAnswers := rfl
@[simp] theorem State.takeResponse_readAnswers : s.takeResponse.readAnswers = s.readAnswers := rfl
@[simp] theorem State.takeResponse_draws : s.takeResponse.draws = s.draws := rfl
@[simp] theorem State.takeResponse_history : s.takeResponse.history = s.history := rfl

/-! `State.settle`. -/

@[simp] theorem State.settle_prev : s.settle.prev = s.prev := rfl
@[simp] theorem State.settle_cur : s.settle.cur = s.cur := rfl
@[simp] theorem State.settle_r : s.settle.r = s.r := rfl
@[simp] theorem State.settle_seq : s.settle.seq = s.seq := rfl
@[simp] theorem State.settle_response : s.settle.response = s.response := rfl
@[simp] theorem State.settle_wires : s.settle.wires = .quiet := rfl
@[simp] theorem State.settle_initDone : s.settle.initDone = s.initDone := rfl
@[simp] theorem State.settle_pins : s.settle.pins = s.pins := rfl
@[simp] theorem State.settle_writeAnswers : s.settle.writeAnswers = s.writeAnswers := rfl
@[simp] theorem State.settle_readAnswers : s.settle.readAnswers = s.readAnswers := rfl
@[simp] theorem State.settle_draws : s.settle.draws = s.draws := rfl
@[simp] theorem State.settle_history : s.settle.history = s.history := rfl

/-! `State.advance`. -/

@[simp] theorem State.advance_prev : s.advance.prev = s.prev := rfl
@[simp] theorem State.advance_cur : s.advance.cur = s.cur := rfl
@[simp] theorem State.advance_r : s.advance.r = s.r := rfl
@[simp] theorem State.advance_seq : s.advance.seq = s.seq := rfl
@[simp] theorem State.advance_response : s.advance.response = s.response := rfl
@[simp] theorem State.advance_wires : s.advance.wires = s.wires := rfl
@[simp] theorem State.advance_initDone : s.advance.initDone = s.initDone := rfl
@[simp] theorem State.advance_pins : s.advance.pins = s.pins.tail := rfl
@[simp] theorem State.advance_writeAnswers : s.advance.writeAnswers = s.writeAnswers := rfl
@[simp] theorem State.advance_readAnswers : s.advance.readAnswers = s.readAnswers := rfl
@[simp] theorem State.advance_draws : s.advance.draws = s.draws := rfl
@[simp] theorem State.advance_history : s.advance.history = s.history := rfl

/-! `busWrite`. -/

@[simp] theorem busWrite_prev (d : List Byte) : (busWrite d s).prev = s.prev := rfl
@[simp] theorem busWrite_cur (d : List Byte) : (busWrite d s).cur = s.cur := rfl
@[simp] theorem busWrite_r (d : List Byte) : (busWrite d s).r = s.r := rfl
@[simp] theorem busWrite_seq (d : List Byte) : (busWrite d s).seq = s.seq := rfl
@[simp] theorem busWrite_response (d : List Byte) : (busWrite d s).response = s.response := rfl
@[simp] theorem busWrite_wires (d : List Byte) : (busWrite d s).wires = { s.wires with write := s.writeAnswer } := rfl
@[simp] theorem busWrite_initDone (d : List Byte) : (busWrite d s).initDone = s.initDone := rfl
@[simp] theorem busWrite_pins (d : List Byte) : (busWrite d s).pins = s.pins := rfl
@[simp] theorem busWrite_writeAnswers (d : List Byte) : (busWrite d s).writeAnswers = s.writeAnswers.tail := rfl
@[simp] theorem busWrite_readAnswers (d : List Byte) : (busWrite d s).readAnswers = s.readAnswers := rfl
@[simp] theorem busWrite_draws (d : List Byte) : (busWrite d s).draws = if s.writeAnswers.isEmpty then s.draws + 1 else s.draws := rfl
@[simp] theorem busWrite_history (d : List Byte) : (busWrite d s).history = s.history ++ [.transfer (.write Config.touchAddress d Config.busTimeout s.writeAnswer)] := rfl

/-! `busRead`. -/

@[simp] theorem busRead_prev (n : Nat) : (busRead n s).prev = s.prev := rfl
@[simp] theorem busRead_cur (n : Nat) : (busRead n s).cur = s.cur := rfl
@[simp] theorem busRead_r (n : Nat) : (busRead n s).r = s.r := rfl
@[simp] theorem busRead_seq (n : Nat) : (busRead n s).seq = s.seq := rfl
@[simp] theorem busRead_response (n : Nat) : (busRead n s).response = s.response := rfl
@[simp] theorem busRead_wires (n : Nat) : (busRead n s).wires = { s.wires with read := s.readAnswer } := rfl
@[simp] theorem busRead_initDone (n : Nat) : (busRead n s).initDone = s.initDone := rfl
@[simp] theorem busRead_pins (n : Nat) : (busRead n s).pins = s.pins := rfl
@[simp] theorem busRead_writeAnswers (n : Nat) : (busRead n s).writeAnswers = s.writeAnswers := rfl
@[simp] theorem busRead_readAnswers (n : Nat) : (busRead n s).readAnswers = s.readAnswers.tail := rfl
@[simp] theorem busRead_draws (n : Nat) : (busRead n s).draws = if s.readAnswers.isEmpty then s.draws + 1 else s.draws := rfl
@[simp] theorem busRead_history (n : Nat) : (busRead n s).history = s.history ++ [.transfer (.read Config.touchAddress n Config.busTimeout s.readAnswer)] := rfl

/-! `endQuietly`. -/

@[simp] theorem endQuietly_prev (c : Cause) : (endQuietly c s).prev = s.prev := rfl
@[simp] theorem endQuietly_cur (c : Cause) : (endQuietly c s).cur = s.cur := rfl
@[simp] theorem endQuietly_r (c : Cause) : (endQuietly c s).r = s.r := rfl
@[simp] theorem endQuietly_seq (c : Cause) : (endQuietly c s).seq = s.seq := rfl
@[simp] theorem endQuietly_response (c : Cause) : (endQuietly c s).response = s.response := rfl
@[simp] theorem endQuietly_wires (c : Cause) : (endQuietly c s).wires = { s.wires with word := 0#32 } := rfl
@[simp] theorem endQuietly_initDone (c : Cause) : (endQuietly c s).initDone = s.initDone := rfl
@[simp] theorem endQuietly_pins (c : Cause) : (endQuietly c s).pins = s.pins := rfl
@[simp] theorem endQuietly_writeAnswers (c : Cause) : (endQuietly c s).writeAnswers = s.writeAnswers := rfl
@[simp] theorem endQuietly_readAnswers (c : Cause) : (endQuietly c s).readAnswers = s.readAnswers := rfl
@[simp] theorem endQuietly_draws (c : Cause) : (endQuietly c s).draws = s.draws := rfl
@[simp] theorem endQuietly_history (c : Cause) : (endQuietly c s).history = s.history ++ [.outcome c] := rfl

/-! `noDataFrame`. -/

@[simp] theorem noDataFrame_prev (c : Cause) : (noDataFrame c s).prev = s.prev := rfl
@[simp] theorem noDataFrame_cur (c : Cause) : (noDataFrame c s).cur = none := rfl
@[simp] theorem noDataFrame_r (c : Cause) : (noDataFrame c s).r = s.r := rfl
@[simp] theorem noDataFrame_seq (c : Cause) : (noDataFrame c s).seq = s.seq := rfl
@[simp] theorem noDataFrame_response (c : Cause) : (noDataFrame c s).response = s.response := rfl
@[simp] theorem noDataFrame_wires (c : Cause) : (noDataFrame c s).wires = { s.wires with frame := .noData, word := 0#32 } := rfl
@[simp] theorem noDataFrame_initDone (c : Cause) : (noDataFrame c s).initDone = s.initDone := rfl
@[simp] theorem noDataFrame_pins (c : Cause) : (noDataFrame c s).pins = s.pins := rfl
@[simp] theorem noDataFrame_writeAnswers (c : Cause) : (noDataFrame c s).writeAnswers = s.writeAnswers := rfl
@[simp] theorem noDataFrame_readAnswers (c : Cause) : (noDataFrame c s).readAnswers = s.readAnswers := rfl
@[simp] theorem noDataFrame_draws (c : Cause) : (noDataFrame c s).draws = s.draws := rfl
@[simp] theorem noDataFrame_history (c : Cause) : (noDataFrame c s).history = s.history ++ [.outcome c] := rfl

/-! `freshFrame`. -/

@[simp] theorem freshFrame_prev (p : Packet) : (freshFrame p s).prev = s.prev := rfl
@[simp] theorem freshFrame_cur (p : Packet) : (freshFrame p s).cur = some p := rfl
@[simp] theorem freshFrame_r (p : Packet) : (freshFrame p s).r = s.r := rfl
@[simp] theorem freshFrame_seq (p : Packet) : (freshFrame p s).seq = s.seq := rfl
@[simp] theorem freshFrame_response (p : Packet) : (freshFrame p s).response = s.response := rfl
@[simp] theorem freshFrame_wires (p : Packet) : (freshFrame p s).wires = { s.wires with frame := .fresh p } := rfl
@[simp] theorem freshFrame_initDone (p : Packet) : (freshFrame p s).initDone = s.initDone := rfl
@[simp] theorem freshFrame_pins (p : Packet) : (freshFrame p s).pins = s.pins := rfl
@[simp] theorem freshFrame_writeAnswers (p : Packet) : (freshFrame p s).writeAnswers = s.writeAnswers := rfl
@[simp] theorem freshFrame_readAnswers (p : Packet) : (freshFrame p s).readAnswers = s.readAnswers := rfl
@[simp] theorem freshFrame_draws (p : Packet) : (freshFrame p s).draws = s.draws := rfl
@[simp] theorem freshFrame_history (p : Packet) : (freshFrame p s).history = s.history := rfl

/-! `discardFrame`. -/

@[simp] theorem discardFrame_prev : (discardFrame s).prev = s.prev := rfl
@[simp] theorem discardFrame_cur : (discardFrame s).cur = s.cur := rfl
@[simp] theorem discardFrame_r : (discardFrame s).r = s.r := rfl
@[simp] theorem discardFrame_seq : (discardFrame s).seq = s.seq := rfl
@[simp] theorem discardFrame_response : (discardFrame s).response = s.response := rfl
@[simp] theorem discardFrame_wires : (discardFrame s).wires = { s.wires with filter := .discard, word := 0#32 } := rfl
@[simp] theorem discardFrame_initDone : (discardFrame s).initDone = s.initDone := rfl
@[simp] theorem discardFrame_pins : (discardFrame s).pins = s.pins := rfl
@[simp] theorem discardFrame_writeAnswers : (discardFrame s).writeAnswers = s.writeAnswers := rfl
@[simp] theorem discardFrame_readAnswers : (discardFrame s).readAnswers = s.readAnswers := rfl
@[simp] theorem discardFrame_draws : (discardFrame s).draws = s.draws := rfl
@[simp] theorem discardFrame_history : (discardFrame s).history = s.history ++ [.outcome .duplicateFrame] := rfl

/-! `passFrame`. -/

@[simp] theorem passFrame_prev (p : Packet) : (passFrame p s).prev = p := rfl
@[simp] theorem passFrame_cur (p : Packet) : (passFrame p s).cur = s.cur := rfl
@[simp] theorem passFrame_r (p : Packet) : (passFrame p s).r = s.r := rfl
@[simp] theorem passFrame_seq (p : Packet) : (passFrame p s).seq = s.seq := rfl
@[simp] theorem passFrame_response (p : Packet) : (passFrame p s).response = s.response := rfl
@[simp] theorem passFrame_wires (p : Packet) : (passFrame p s).wires = { s.wires with filter := .pass p } := rfl
@[simp] theorem passFrame_initDone (p : Packet) : (passFrame p s).initDone = s.initDone := rfl
@[simp] theorem passFrame_pins (p : Packet) : (passFrame p s).pins = s.pins := rfl
@[simp] theorem passFrame_writeAnswers (p : Packet) : (passFrame p s).writeAnswers = s.writeAnswers := rfl
@[simp] theorem passFrame_readAnswers (p : Packet) : (passFrame p s).readAnswers = s.readAnswers := rfl
@[simp] theorem passFrame_draws (p : Packet) : (passFrame p s).draws = s.draws := rfl
@[simp] theorem passFrame_history (p : Packet) : (passFrame p s).history = s.history := rfl

/-! `deliverEvent`. -/

@[simp] theorem deliverEvent_prev (e : NormalizedEvent) : (deliverEvent e s).prev = s.prev := rfl
@[simp] theorem deliverEvent_cur (e : NormalizedEvent) : (deliverEvent e s).cur = s.cur := rfl
@[simp] theorem deliverEvent_r (e : NormalizedEvent) : (deliverEvent e s).r = s.r := rfl
@[simp] theorem deliverEvent_seq (e : NormalizedEvent) : (deliverEvent e s).seq = s.seq := rfl
@[simp] theorem deliverEvent_response (e : NormalizedEvent) : (deliverEvent e s).response = s.response := rfl
@[simp] theorem deliverEvent_wires (e : NormalizedEvent) : (deliverEvent e s).wires = { s.wires with event := e } := rfl
@[simp] theorem deliverEvent_initDone (e : NormalizedEvent) : (deliverEvent e s).initDone = s.initDone := rfl
@[simp] theorem deliverEvent_pins (e : NormalizedEvent) : (deliverEvent e s).pins = s.pins := rfl
@[simp] theorem deliverEvent_writeAnswers (e : NormalizedEvent) : (deliverEvent e s).writeAnswers = s.writeAnswers := rfl
@[simp] theorem deliverEvent_readAnswers (e : NormalizedEvent) : (deliverEvent e s).readAnswers = s.readAnswers := rfl
@[simp] theorem deliverEvent_draws (e : NormalizedEvent) : (deliverEvent e s).draws = s.draws := rfl
@[simp] theorem deliverEvent_history (e : NormalizedEvent) : (deliverEvent e s).history = s.history := rfl

/-! `decodeMiss`. -/

@[simp] theorem decodeMiss_prev (p : Packet) : (decodeMiss p s).prev = s.prev := rfl
@[simp] theorem decodeMiss_cur (p : Packet) : (decodeMiss p s).cur = s.cur := rfl
@[simp] theorem decodeMiss_r (p : Packet) : (decodeMiss p s).r = s.r := rfl
@[simp] theorem decodeMiss_seq (p : Packet) : (decodeMiss p s).seq = s.seq := rfl
@[simp] theorem decodeMiss_response (p : Packet) : (decodeMiss p s).response = s.response := rfl
@[simp] theorem decodeMiss_wires (p : Packet) : (decodeMiss p s).wires = { s.wires with event := .noEvent, word := 0#32 } := rfl
@[simp] theorem decodeMiss_initDone (p : Packet) : (decodeMiss p s).initDone = s.initDone := rfl
@[simp] theorem decodeMiss_pins (p : Packet) : (decodeMiss p s).pins = s.pins := rfl
@[simp] theorem decodeMiss_writeAnswers (p : Packet) : (decodeMiss p s).writeAnswers = s.writeAnswers := rfl
@[simp] theorem decodeMiss_readAnswers (p : Packet) : (decodeMiss p s).readAnswers = s.readAnswers := rfl
@[simp] theorem decodeMiss_draws (p : Packet) : (decodeMiss p s).draws = s.draws := rfl
@[simp] theorem decodeMiss_history (p : Packet) : (decodeMiss p s).history = s.history ++ [.outcome (missCause p)] := rfl

/-! `packNone`. -/

@[simp] theorem packNone_prev : (packNone s).prev = s.prev := rfl
@[simp] theorem packNone_cur : (packNone s).cur = s.cur := rfl
@[simp] theorem packNone_r : (packNone s).r = s.r := rfl
@[simp] theorem packNone_seq : (packNone s).seq = s.seq := rfl
@[simp] theorem packNone_response : (packNone s).response = s.response := rfl
@[simp] theorem packNone_wires : (packNone s).wires = { s.wires with word := 0#32 } := rfl
@[simp] theorem packNone_initDone : (packNone s).initDone = s.initDone := rfl
@[simp] theorem packNone_pins : (packNone s).pins = s.pins := rfl
@[simp] theorem packNone_writeAnswers : (packNone s).writeAnswers = s.writeAnswers := rfl
@[simp] theorem packNone_readAnswers : (packNone s).readAnswers = s.readAnswers := rfl
@[simp] theorem packNone_draws : (packNone s).draws = s.draws := rfl
@[simp] theorem packNone_history : (packNone s).history = s.history := rfl

/-! `packEvent`. -/

@[simp] theorem packEvent_prev (e : NormalizedEvent) : (packEvent e s).prev = s.prev := rfl
@[simp] theorem packEvent_cur (e : NormalizedEvent) : (packEvent e s).cur = s.cur := rfl
@[simp] theorem packEvent_r (e : NormalizedEvent) : (packEvent e s).r = s.r := rfl
@[simp] theorem packEvent_seq (e : NormalizedEvent) : (packEvent e s).seq = s.seq := rfl
@[simp] theorem packEvent_response (e : NormalizedEvent) : (packEvent e s).response = s.response := rfl
@[simp] theorem packEvent_wires (e : NormalizedEvent) : (packEvent e s).wires = { s.wires with word := e.word } := rfl
@[simp] theorem packEvent_initDone (e : NormalizedEvent) : (packEvent e s).initDone = s.initDone := rfl
@[simp] theorem packEvent_pins (e : NormalizedEvent) : (packEvent e s).pins = s.pins := rfl
@[simp] theorem packEvent_writeAnswers (e : NormalizedEvent) : (packEvent e s).writeAnswers = s.writeAnswers := rfl
@[simp] theorem packEvent_readAnswers (e : NormalizedEvent) : (packEvent e s).readAnswers = s.readAnswers := rfl
@[simp] theorem packEvent_draws (e : NormalizedEvent) : (packEvent e s).draws = s.draws := rfl
@[simp] theorem packEvent_history (e : NormalizedEvent) : (packEvent e s).history = s.history ++ [.outcome (.eventProduced e.kind)] := rfl

/-! `State.blockReset`. -/

@[simp] theorem State.blockReset_prev : s.blockReset.prev = State.reset.prev := rfl
@[simp] theorem State.blockReset_cur : s.blockReset.cur = State.reset.cur := rfl
@[simp] theorem State.blockReset_r : s.blockReset.r = State.reset.r := rfl
@[simp] theorem State.blockReset_seq : s.blockReset.seq = State.reset.seq := rfl
@[simp] theorem State.blockReset_response : s.blockReset.response = State.reset.response := rfl
@[simp] theorem State.blockReset_wires : s.blockReset.wires = State.reset.wires := rfl
@[simp] theorem State.blockReset_initDone : s.blockReset.initDone = s.initDone := rfl
@[simp] theorem State.blockReset_pins : s.blockReset.pins = s.pins := rfl
@[simp] theorem State.blockReset_writeAnswers : s.blockReset.writeAnswers = s.writeAnswers := rfl
@[simp] theorem State.blockReset_readAnswers : s.blockReset.readAnswers = s.readAnswers := rfl
@[simp] theorem State.blockReset_draws : s.blockReset.draws = s.draws := rfl
@[simp] theorem State.blockReset_history : s.blockReset.history = State.reset.history := rfl

/-! `State.controllerInit`. -/

@[simp] theorem State.controllerInit_prev : s.controllerInit.prev = s.prev := rfl
@[simp] theorem State.controllerInit_cur : s.controllerInit.cur = s.cur := rfl
@[simp] theorem State.controllerInit_r : s.controllerInit.r = s.r := rfl
@[simp] theorem State.controllerInit_seq : s.controllerInit.seq = s.seq := rfl
@[simp] theorem State.controllerInit_response : s.controllerInit.response = none := rfl
@[simp] theorem State.controllerInit_wires : s.controllerInit.wires = s.wires := rfl
@[simp] theorem State.controllerInit_initDone : s.controllerInit.initDone = true := rfl
@[simp] theorem State.controllerInit_pins : s.controllerInit.pins = s.pins := rfl
@[simp] theorem State.controllerInit_writeAnswers : s.controllerInit.writeAnswers = s.writeAnswers := rfl
@[simp] theorem State.controllerInit_readAnswers : s.controllerInit.readAnswers = s.readAnswers := rfl
@[simp] theorem State.controllerInit_draws : s.controllerInit.draws = s.draws := rfl
@[simp] theorem State.controllerInit_history : s.controllerInit.history = s.history := rfl

end Sys2Proof.Machine
end

