-- ==== Sys2Proof/Laws/Poll.lean ====
section
/-! SUPPORT. What one poll does, line by line of the outcome table (43_read_event.md R93): callers cite these lemmas and do
not unfold the stages. -/

namespace Sys2Proof.Machine

variable {s : State} {p : Packet}

@[simp] theorem settle_writeAnswer : s.settle.writeAnswer = s.writeAnswer := rfl
@[simp] theorem settle_readAnswer : s.settle.readAnswer = s.readAnswer := rfl
@[simp] theorem takeResponse_writeAnswer : s.takeResponse.writeAnswer = s.writeAnswer := rfl
@[simp] theorem takeResponse_readAnswer : s.takeResponse.readAnswer = s.readAnswer := rfl
@[simp] theorem log_writeAnswer (e : HistoryEvent) : (s.log e).writeAnswer = s.writeAnswer := rfl
@[simp] theorem settle_pollReadAnswer : pollReadAnswer s.settle = pollReadAnswer s := rfl
@[simp] theorem log_pollReadAnswer (e : HistoryEvent) : pollReadAnswer (s.log e) = pollReadAnswer s := rfl

/-- The state after the register-select write. -/
theorem regSelectWrite_eq : regSelectWrite s = busWrite [Config.regSelect] s := rfl

/-- The state after the packet read. -/
theorem packetRead_eq : packetRead s = busRead Config.packetLen s := rfl

/-- POLL_FRAME when the write fails: no read is attempted (R62, R67). -/
theorem frameStage_writeFail (h : s.writeAnswer = .fail) :
    frameStage s = noDataFrame .busWriteFailure (regSelectWrite s.settle) := by
  have h' : (regSelectWrite s.settle).wires.write = .fail := h
  simp only [frameStage, h']

/-- POLL_FRAME when the read fails (R67). -/
theorem frameStage_readFail (hw : s.writeAnswer = .ok) (hr : pollReadAnswer s = .fail) :
    frameStage s = noDataFrame .busReadFailure (packetRead (regSelectWrite s.settle)) := by
  have hw' : (regSelectWrite s.settle).wires.write = .ok := hw
  have hr' : (packetRead (regSelectWrite s.settle)).wires.read = .fail := hr
  simp only [frameStage, readFrame, hw', hr']

/-- POLL_FRAME when both transfers succeed (R63, R67). -/
theorem frameStage_fresh (hw : s.writeAnswer = .ok) (hr : pollReadAnswer s = .ok p) :
    frameStage s = freshFrame p (packetRead (regSelectWrite s.settle)) := by
  have hw' : (regSelectWrite s.settle).wires.write = .ok := hw
  have hr' : (packetRead (regSelectWrite s.settle)).wires.read = .ok p := hr
  simp only [frameStage, readFrame, hw', hr']

/-- DUP_FILTER on a duplicate (R73). -/
theorem filterStage_duplicate (h : p = s.prev) : filterStage p s = discardFrame s := by
  simp [filterStage, h]

/-- DUP_FILTER on any other packet (R72). -/
theorem filterStage_pass (h : p ≠ s.prev) : filterStage p s = passFrame p s := by
  simp [filterStage, h]

/-- DECODE on a packet with an event (R76). -/
theorem decodeStage_event (h : p.event ≠ .noEvent) : decodeStage p s = deliverEvent p.event s := by
  unfold decodeStage
  cases he : p.event <;> simp_all

/-- DECODE on a packet without one (R77, R82). -/
theorem decodeStage_miss (h : p.event = .noEvent) : decodeStage p s = decodeMiss p s := by
  simp [decodeStage, h]

/-- PACK of an event (R84). -/
theorem packStage_event {e : NormalizedEvent} (h : e ≠ .noEvent) : packStage e s = packEvent e s := by
  cases e <;> simp_all [packStage]

/-- PACK of None (R84). -/
@[simp] theorem packStage_noEvent : packStage .noEvent s = packNone s := rfl

/-- A poll whose write fails: line 1 of R93. -/
theorem poll_writeFail (h : s.writeAnswer = .fail) :
    poll s = noDataFrame .busWriteFailure (regSelectWrite s.settle) := by
  simp [poll, frameStage_writeFail h]

/-- A poll whose read fails: line 2 of R93. -/
theorem poll_readFail (hw : s.writeAnswer = .ok) (hr : pollReadAnswer s = .fail) :
    poll s = noDataFrame .busReadFailure (packetRead (regSelectWrite s.settle)) := by
  simp [poll, frameStage_readFail hw hr]

/-- A poll that reads a duplicate: line 3 of R93. -/
theorem poll_duplicate (hw : s.writeAnswer = .ok) (hr : pollReadAnswer s = .ok p) (hp : p = s.prev) :
    poll s = discardFrame (freshFrame p (packetRead (regSelectWrite s.settle))) := by
  have hp' : p = (freshFrame p (packetRead (regSelectWrite s.settle))).prev := hp
  simp [poll, frameStage_fresh hw hr, filterAndDecode, filterStage_duplicate hp']

/-- A poll that reads a packet which decodes to None: lines 4 and 5 of R93. -/
theorem poll_miss (hw : s.writeAnswer = .ok) (hr : pollReadAnswer s = .ok p) (hp : p ≠ s.prev)
    (he : p.event = .noEvent) :
    poll s = packNone (decodeMiss p (passFrame p (freshFrame p (packetRead (regSelectWrite s.settle))))) := by
  have hp' : p ≠ (freshFrame p (packetRead (regSelectWrite s.settle))).prev := hp
  simp [poll, frameStage_fresh hw hr, filterAndDecode, filterStage_pass hp', decodeAndPack, decodeStage_miss he]

/-- A poll that produces an event: lines 6 to 8 of R93. -/
theorem poll_event (hw : s.writeAnswer = .ok) (hr : pollReadAnswer s = .ok p) (hp : p ≠ s.prev)
    (he : p.event ≠ .noEvent) :
    poll s = packEvent p.event
      (deliverEvent p.event (passFrame p (freshFrame p (packetRead (regSelectWrite s.settle))))) := by
  have hp' : p ≠ (freshFrame p (packetRead (regSelectWrite s.settle))).prev := hp
  simp [poll, frameStage_fresh hw hr, filterAndDecode, filterStage_pass hp', decodeAndPack, decodeStage_event he,
    packStage_event he]

/-- Everything a poll can do (R93): one of the five lines. -/
theorem poll_cases (s : State) :
    s.writeAnswer = .fail ∨ (s.writeAnswer = .ok ∧ pollReadAnswer s = .fail) ∨
      ∃ p, s.writeAnswer = .ok ∧ pollReadAnswer s = .ok p ∧
        (p = s.prev ∨ (p ≠ s.prev ∧ p.event = .noEvent) ∨ (p ≠ s.prev ∧ p.event ≠ .noEvent)) := by
  cases hw : s.writeAnswer with
  | fail => exact .inl rfl
  | ok =>
    cases hr : pollReadAnswer s with
    | fail => exact .inr (.inl ⟨rfl, rfl⟩)
    | ok p =>
      refine .inr (.inr ⟨p, rfl, rfl, ?_⟩)
      by_cases hp : p = s.prev
      · exact .inl hp
      · by_cases he : p.event = .noEvent
        · exact .inr (.inl ⟨hp, he⟩)
        · exact .inr (.inr ⟨hp, he⟩)

/-- A poll touches no other field: R, SEQ, the ports, the launch premise (R90, R94). -/
theorem poll_frame (s : State) :
    (poll s).r = s.r ∧ (poll s).seq = s.seq ∧ (poll s).response = s.response ∧ (poll s).initDone = s.initDone ∧
      (poll s).pins = s.pins := by
  rcases poll_cases s with h | ⟨hw, hr⟩ | ⟨p, hw, hr, hp | ⟨hp, he⟩ | ⟨hp, he⟩⟩
  · simp [poll_writeFail h, regSelectWrite_eq]
  · simp [poll_readFail hw hr, regSelectWrite_eq, packetRead_eq]
  · simp [poll_duplicate hw hr hp, regSelectWrite_eq, packetRead_eq]
  · simp [poll_miss hw hr hp he, regSelectWrite_eq, packetRead_eq]
  · simp [poll_event hw hr hp he, regSelectWrite_eq, packetRead_eq]

@[simp] theorem poll_r (s : State) : (poll s).r = s.r := (poll_frame s).1
@[simp] theorem poll_seq (s : State) : (poll s).seq = s.seq := (poll_frame s).2.1
@[simp] theorem poll_response (s : State) : (poll s).response = s.response := (poll_frame s).2.2.1
@[simp] theorem poll_initDone (s : State) : (poll s).initDone = s.initDone := (poll_frame s).2.2.2.1
@[simp] theorem poll_pins (s : State) : (poll s).pins = s.pins := (poll_frame s).2.2.2.2

/-- The poll's word is the word of a decoder result: one of the four shapes (R52, R88). -/
theorem pollWord_shape (s : State) : IsEventWord (pollWord s) := by
  rcases poll_cases s with h | ⟨hw, hr⟩ | ⟨p, hw, hr, hp | ⟨hp, he⟩ | ⟨hp, he⟩⟩
  · exact ⟨.noEvent, by simp [pollWord, poll_writeFail h, NormalizedEvent.word]⟩
  · exact ⟨.noEvent, by simp [pollWord, poll_readFail hw hr, NormalizedEvent.word]⟩
  · exact ⟨.noEvent, by simp [pollWord, poll_duplicate hw hr hp, NormalizedEvent.word]⟩
  · exact ⟨.noEvent, by simp [pollWord, poll_miss hw hr hp he, NormalizedEvent.word]⟩
  · exact ⟨p.event, by simp [pollWord, poll_event hw hr hp he]⟩

/-- The operation that SEQ selects is the one its code decodes to (R57). -/
theorem decode_seq_code (prev : Packet) (q : Seq) : decode prev (.seq q.code) = .ok q.instr := by
  cases q <;> rfl

end Sys2Proof.Machine
end

