-- ==== Sys2Proof/Laws/Step.lean ====
section
/-! SUPPORT. What the operations that the step runs, and the step itself, can do: one lemma each, cited by the proofs about
runs. -/

namespace Sys2Proof.Machine

variable {s t : State}

/-- An operation under the launch premise answers next exactly when the premise holds. -/
theorem withInit_next (u : State) : withInit s u = .next t ↔ s.initDone = true ∧ u = t := by
  unfold withInit
  split <;> simp_all

/-- With the launch premise an operation that needs it completes. -/
theorem withInit_of_init (h : s.initDone = true) (u : State) : withInit s u = .next u := by
  simp [withInit, h]

/-- Everything a stage on CUR can do: it runs on the packet there, or there is none and nothing changes. -/
theorem withCur_next (f : Packet → State → State) :
    withCur f s = .next t ↔ (s.cur = none ∧ t = s) ∨ ∃ p, s.cur = some p ∧ t = f p s := by
  unfold withCur
  cases s.cur <;> simp [eq_comm]

/-- `mapNext` answers next exactly when its argument does. -/
theorem mapNext_next (f : State → State) (o : Host.Outcome State Fault Refusal) :
    mapNext f o = .next t ↔ ∃ u, o = .next u ∧ f u = t := by
  cases o <;> simp [mapNext]

/-- Everything SEQ_IDLE can do: nothing, an accepted READ_EVENT, an accepted AWAIT_CLICK (R102). -/
theorem execSeqIdle_cases (h : execSeqIdle s = .next t) :
    t = s ∨ (s.seq = .idle ∧ s.initDone = true ∧ s.sample.cmd = Config.cmdReadEvent ∧ t = readEvent s) ∨
      (s.seq = .idle ∧ s.initDone = true ∧ s.sample.cmd = Config.cmdAwaitClick ∧ t = acceptAwaitClick s) := by
  unfold execSeqIdle execReadEvent execAwaitClick execCmdRsvd execCmdNone at h
  split at h
  · split at h
    · rename_i hr
      obtain ⟨hi, rfl⟩ := (withInit_next _).1 h
      exact .inr (.inl ⟨by simpa [State.ready] using hr, hi, ‹_›, rfl⟩)
    · exact .inl (by simpa using h.symm)
  · split at h
    · split at h
      · rename_i hr
        obtain ⟨hi, rfl⟩ := (withInit_next _).1 h
        exact .inr (.inr ⟨by simpa [State.ready] using hr, hi, ‹_›, rfl⟩)
      · exact .inl (by simpa using h.symm)
    · split at h <;> exact .inl (by simpa using h.symm)

/-- Everything a step can do: a platform event, or the operation SEQ selects, which is one of six. -/
theorem step_cases (h : step s = .next t) :
    (s.sample.platform = .blockReset ∧ t = s.blockReset.advance) ∨
    (s.sample.platform = .controllerInit ∧ t = s.controllerInit.advance) ∨
    (s.sample.platform = .quiet ∧ ∃ u, t = u.advance ∧
      ((s.seq = .idle ∧ execSeqIdle s.takeResponse = .next u) ∨
       (s.seq = .drain1 ∧ s.initDone = true ∧ u = drain1Step s.takeResponse) ∨
       (s.seq = .awaitStart ∧ s.initDone = true ∧ u = awaitStartStep s.takeResponse) ∨
       (s.seq = .awaitEnd ∧ s.initDone = true ∧ u = awaitEndStep s.takeResponse) ∨
       (s.seq = .drain2 ∧ s.initDone = true ∧ u = drain2Step s.takeResponse) ∨
       (s.seq = .done ∧ u = doneStep s.takeResponse))) := by
  unfold step at h
  cases hp : s.sample.platform with
  | blockReset => rw [hp] at h; exact .inl ⟨rfl, by simpa using h.symm⟩
  | controllerInit => rw [hp] at h; exact .inr (.inl ⟨rfl, by simpa using h.symm⟩)
  | quiet =>
    rw [hp] at h
    obtain ⟨u, hu, rfl⟩ := (mapNext_next _ _).1 h
    refine .inr (.inr ⟨rfl, u, rfl, ?_⟩)
    cases hq : s.seq with
    | idle => rw [hq] at hu; exact .inl ⟨rfl, hu⟩
    | drain1 =>
      rw [hq] at hu
      obtain ⟨hi, rfl⟩ := (withInit_next _).1 hu
      exact .inr (.inl ⟨rfl, hi, rfl⟩)
    | awaitStart =>
      rw [hq] at hu
      obtain ⟨hi, rfl⟩ := (withInit_next _).1 hu
      exact .inr (.inr (.inl ⟨rfl, hi, rfl⟩))
    | awaitEnd =>
      rw [hq] at hu
      obtain ⟨hi, rfl⟩ := (withInit_next _).1 hu
      exact .inr (.inr (.inr (.inl ⟨rfl, hi, rfl⟩)))
    | drain2 =>
      rw [hq] at hu
      obtain ⟨hi, rfl⟩ := (withInit_next _).1 hu
      exact .inr (.inr (.inr (.inr (.inl ⟨rfl, hi, rfl⟩))))
    | done =>
      rw [hq] at hu
      exact .inr (.inr (.inr (.inr (.inr ⟨rfl, by simpa [Seq.instr, exec, execSeqDone] using hu.symm⟩))))

end Sys2Proof.Machine
end

