-- ==== Sys2Proof/Tests/Slice0.lean ====
section
/-! SUPPORT. The model's own tests. Expected values come from the worked examples and vectors of 95_test_vectors.md (S and V
numbers) and from the tables of the rules named, not from the model. Last, for every statement with hypotheses, a state and
operands that meet them. -/

namespace Sys2Proof.Tests

open Sys2Proof.Machine

/-! Helpers. -/

/-- The next state, if there is one. -/
def nextOf : Host.Outcome State Fault Refusal → Option State
  | .next s => some s
  | .fault _ => none
  | .refused _ => none

/-- What is seen of the next state. -/
def seen {α : Type} (i : Instr) (s : State) (f : State → α) : Option α := (nextOf (exec i s)).map f

/-- An idle block that holds `prev`, its next poll given these answers. -/
def idleWith (prev : Packet) (w : WriteAnswer) (r : ReadAnswer) : State :=
  { State.reset with prev := prev, writeAnswers := [w], readAnswers := [r] }

/-- The same block with the sequencer in state `q`. -/
def seqWith (q : Seq) (prev : Packet) (w : WriteAnswer) (r : ReadAnswer) : State :=
  { idleWith prev w r with seq := q }

/-- A block with a packet in CUR. -/
def curWith (prev p : Packet) : State := { State.reset with prev := prev, cur := some p }

/-- A block whose port shows `c` and whose platform does `e`. -/
def portWith (c : BitVec 2) (e : PlatformEvent) : State := { State.reset with pins := [⟨c, e⟩] }

/-- 00 00 01 00 0A 00 14, Start(10,20) (V20). -/
def startV20 : Packet := ⟨0x00, 0x00, 0x01, 0x00, 0x0A, 0x00, 0x14⟩

/-- 00 00 01 80 0A 00 15, Move(10,21) (V21). -/
def moveV21 : Packet := ⟨0x00, 0x00, 0x01, 0x80, 0x0A, 0x00, 0x15⟩

/-- 00 00 00 40 0C 00 16, End(12,22) (V23). -/
def endV23 : Packet := ⟨0x00, 0x00, 0x00, 0x40, 0x0C, 0x00, 0x16⟩

/-- 00 10 01 00 10 00 20, refused by the gesture gate (V38). -/
def gateV38 : Packet := ⟨0x00, 0x10, 0x01, 0x00, 0x10, 0x00, 0x20⟩

/-- 00 00 0F 40 12 03 45, count 0xF with lift-up (V31). -/
def noneV31 : Packet := ⟨0x00, 0x00, 0x0F, 0x40, 0x12, 0x03, 0x45⟩

/-- All ignored bits 0. -/
def noBits : IgnoredBits := ⟨0, 0, 0, 0⟩

/-! WellFormed: an ill-formed term for each check (R49). -/

theorem test_wf_start_duplicate : Instr.wellFormed startV20 (.evStart noBits 10#12 20#12) = false := by decide
theorem test_wf_move_duplicate : Instr.wellFormed moveV21 (.evMove noBits 10#12 21#12) = false := by decide
theorem test_wf_end_duplicate : Instr.wellFormed endV23 (.evEnd noBits 12#12 22#12) = false := by decide
theorem test_wf_none_duplicate : Instr.wellFormed gateV38 (.evNone gateV38) = false := by decide
theorem test_wf_none_of_a_row :
    Instr.wellFormed Packet.zero (.evNone startV20) = false ∧ Instr.wellFormed Packet.zero (.evNone moveV21) = false ∧
      Instr.wellFormed Packet.zero (.evNone endV23) = false := by decide
theorem test_wf_accepts : Instr.wellFormed Packet.zero (.evStart noBits 10#12 20#12) = true ∧
    Instr.wellFormed Packet.zero (.evNone noneV31) = true := by decide

/-! Decode: each constructor by a word written out from its encoding. -/

/-- The codes of R41. -/
theorem test_decode_cmd :
    decode Packet.zero (.cmd 0b00#2) = .ok .cmdNone ∧ decode Packet.zero (.cmd 0b01#2) = .ok .readEvent ∧
    decode Packet.zero (.cmd 0b10#2) = .ok .awaitClick ∧ decode Packet.zero (.cmd 0b11#2) = .ok .cmdRsvd := by decide

/-- The transfers of R44; any other data or length is refused by name (R26). -/
theorem test_decode_bus :
    decode Packet.zero (.busWrite [0x00#8]) = .ok .busRegsel ∧
    decode Packet.zero (.busWrite [0x01#8]) = .error .busDataNotRegSelect ∧
    decode Packet.zero (.busWrite [0x00#8, 0x00#8]) = .error .busDataNotRegSelect ∧
    decode Packet.zero (.busRead 7) = .ok .busRead7 ∧ decode Packet.zero (.busRead 6) = .error .busLengthNotSeven := by
  decide

/-- The order of the stages (R90). -/
theorem test_decode_stage :
    decode Packet.zero (.stage .frameReader) = .ok .pollFrame ∧
    decode Packet.zero (.stage .duplicateSuppressor) = .ok .dupFilter ∧
    decode Packet.zero (.stage .eventDecoder) = .ok .decode ∧ decode Packet.zero (.stage .packer) = .ok .pack := by
  decide

/-- V12 in the 56-bit form, and V10. -/
theorem test_decode_duplicate :
    decode startV20 (.pkt 0x000001000A0014#56) = .ok .pktDup ∧ decode Packet.zero (.pkt 0#56) = .ok .pktDup := by decide

/-- V20, V24, V27, V39. -/
theorem test_decode_start :
    decode Packet.zero (.pkt 0x000001000A0014#56) = .ok (.evStart noBits 10#12 20#12) ∧
    decode Packet.zero (.pkt 0x00000100000000#56) = .ok (.evStart noBits 0#12 0#12) ∧
    decode Packet.zero (.pkt 0x0000010FFF0FFF#56) = .ok (.evStart noBits 4095#12 4095#12) ∧
    decode Packet.zero (.pkt 0xAB00F13FFFFFFF#56) = .ok (.evStart ⟨0xAB, 0xF, 0b11, 0xF⟩ 4095#12 4095#12) := by decide

/-- V21, V28, V40. -/
theorem test_decode_move :
    decode Packet.zero (.pkt 0x000001800A0015#56) = .ok (.evMove noBits 10#12 21#12) ∧
    decode Packet.zero (.pkt 0x0000018FFF0FFF#56) = .ok (.evMove noBits 4095#12 4095#12) ∧
    decode Packet.zero (.pkt 0x000011B1237456#56) = .ok (.evMove ⟨0x00, 0x1, 0b11, 0x7⟩ 291#12 1110#12) := by decide

/-- V23, V29, V41. -/
theorem test_decode_end :
    decode Packet.zero (.pkt 0x000000400C0016#56) = .ok (.evEnd noBits 12#12 22#12) ∧
    decode Packet.zero (.pkt 0x0000004FFF0FFF#56) = .ok (.evEnd noBits 4095#12 4095#12) ∧
    decode Packet.zero (.pkt 0x5500E07234A567#56) = .ok (.evEnd ⟨0x55, 0xE, 0b11, 0xA⟩ 564#12 1383#12) := by decide

/-- V31, V32, V36, V37, V38. -/
theorem test_decode_none :
    decode Packet.zero (.pkt 0x00000F40120345#56) = .ok (.evNone noneV31) ∧
    decode Packet.zero (.pkt 0x00000FC0000000#56) = .ok (.evNone ⟨0, 0, 0x0F, 0xC0, 0, 0, 0⟩) ∧
    decode Packet.zero (.pkt 0x00000080100020#56) = .ok (.evNone ⟨0, 0, 0, 0x80, 0x10, 0, 0x20⟩) ∧
    decode Packet.zero (.pkt 0x00000200100020#56) = .ok (.evNone ⟨0, 0, 0x02, 0, 0x10, 0, 0x20⟩) ∧
    decode Packet.zero (.pkt 0x00100100100020#56) = .ok (.evNone gateV38) := by decide

/-- V45 to V48 and the shapes of R46; other shapes are refused (R52). -/
theorem test_decode_event_word :
    decode Packet.zero (.evw 0x00000000#32) = .ok .evwNone ∧
    decode Packet.zero (.evw 0x0100A014#32) = .ok (.evwStart 10#12 20#12) ∧
    decode Packet.zero (.evw 0x02123456#32) = .ok (.evwMove 0x123#12 0x456#12) ∧
    decode Packet.zero (.evw 0x04FFFFFF#32) = .ok (.evwEnd 4095#12 4095#12) ∧
    decode Packet.zero (.evw 0x00000001#32) = .error .eventWordShape ∧
    decode Packet.zero (.evw 0x03000000#32) = .error .eventWordShape ∧
    decode Packet.zero (.evw 0x81000000#32) = .error .eventWordShape := by decide

/-- The codes of R57. -/
theorem test_decode_seq :
    decode Packet.zero (.seq 0b000#3) = .ok .seqIdle ∧ decode Packet.zero (.seq 0b001#3) = .ok .seqDrain1 ∧
    decode Packet.zero (.seq 0b010#3) = .ok .seqAwaitStart ∧ decode Packet.zero (.seq 0b011#3) = .ok .seqAwaitEnd ∧
    decode Packet.zero (.seq 0b100#3) = .ok .seqDrain2 ∧ decode Packet.zero (.seq 0b101#3) = .ok .seqDone ∧
    decode Packet.zero (.seq 0b110#3) = .error .seqCodeUnused ∧
    decode Packet.zero (.seq 0b111#3) = .error .seqCodeUnused := by decide

/-- V46 to V49: unpacking. -/
theorem test_unpack :
    kindOf 0x0100A014#32 = some .startKind ∧ xOf 0x0100A014#32 = 10#12 ∧ yOf 0x0100A014#32 = 20#12 ∧
    kindOf 0x02123456#32 = some .moveKind ∧ xOf 0x02123456#32 = 291#12 ∧ yOf 0x02123456#32 = 1110#12 ∧
    kindOf 0x04000000#32 = some .endKind ∧ kindOf 0x00000000#32 = some .noneKind := by decide

/-! One step each. -/

/-- R53: no state change. -/
theorem test_cmd_none : exec .cmdNone State.reset = .next State.reset ∧ exec .cmdRsvd State.reset = .next State.reset := by
  exact ⟨rfl, rfl⟩

/-- V51, V50. -/
theorem test_read_event :
    seen .readEvent (idleWith Packet.zero .ok (.ok ⟨0, 0, 0x01, 0x80, 0x10, 0, 0x20⟩)) (fun t => (t.response, t.prev)) =
      some (some 0x02010020#32, ⟨0, 0, 0x01, 0x80, 0x10, 0, 0x20⟩) ∧
    seen .readEvent (idleWith Packet.zero .ok (.ok Packet.zero)) (fun t => (t.response, t.prev)) =
      some (some 0#32, Packet.zero) := by decide

/-- V52, V56, V58: a zero word with and without a new PREV. -/
theorem test_read_event_zero :
    seen .readEvent (idleWith startV20 .ok (.ok gateV38)) (fun t => (t.response, t.prev)) = some (some 0#32, gateV38) ∧
    seen .readEvent (idleWith startV20 .ok .fail) (fun t => (t.response, t.prev)) = some (some 0#32, startV20) ∧
    seen .readEvent (idleWith startV20 .fail .fail) (fun t => (t.response, t.prev)) = some (some 0#32, startV20) := by
  decide

/-- P2, the acceptance, from the R of P3's start state. -/
theorem test_await_click :
    seen .awaitClick { State.reset with r := 0x0400C016#32 } (fun t => (t.seq, t.r, t.response, t.ready)) =
      some (.drain1, 0#32, none, false) := by decide

/-- V1 to V4: result and CUR. -/
theorem test_poll_frame :
    seen .pollFrame (idleWith Packet.zero .fail .fail) (fun t => (t.wires.frame, t.cur)) = some (.noData, none) ∧
    seen .pollFrame (idleWith Packet.zero .ok .fail) (fun t => (t.wires.frame, t.cur)) = some (.noData, none) ∧
    seen .pollFrame (idleWith Packet.zero .ok (.ok startV20)) (fun t => (t.wires.frame, t.cur)) =
      some (.fresh startV20, some startV20) := by decide

/-- V1: a failed write suppresses the read, whose answer is still there. -/
theorem test_poll_frame_no_read :
    seen .pollFrame (idleWith Packet.zero .fail (.ok startV20)) (fun t => (t.writeAnswers, t.readAnswers)) =
      some ([], [.ok startV20]) := by decide

/-- R61, R62: the answers and no register. -/
theorem test_transfers :
    seen .busRegsel (idleWith startV20 .ok .fail) (fun t => (t.wires.write, t.prev, t.cur)) =
      some (.ok, startV20, none) ∧
    seen .busRead7 (idleWith startV20 .ok (.ok moveV21)) (fun t => (t.wires.read, t.prev, t.cur)) =
      some (.ok moveV21, startV20, none) := by decide

/-- V12, V13: equal bytes are discarded, a difference in an ignored bit passes. -/
theorem test_dup_filter :
    seen .dupFilter (curWith startV20 startV20) (fun t => (t.wires.filter, t.prev)) = some (.discard, startV20) ∧
    seen .dupFilter (curWith startV20 { startV20 with p0 := 0x01 }) (fun t => (t.wires.filter, t.prev)) =
      some (.pass { startV20 with p0 := 0x01 }, { startV20 with p0 := 0x01 }) := by decide

/-- R65: after a failed transfer (V1) the stages are not run; PREV and the word 0 stay. -/
theorem test_stages_without_packet :
    seen .dupFilter { curWith startV20 startV20 with cur := none } (fun t => (t.prev, t.wires.word, t.history)) =
      some (startV20, 0#32, []) ∧
    seen .decode { curWith startV20 startV20 with cur := none } (fun t => (t.wires.event, t.wires.word, t.history)) =
      some (.noEvent, 0#32, []) := by decide

/-- S2, V23, V31, V40. -/
theorem test_decode_stage_events :
    seen .decode (curWith Packet.zero ⟨0, 0xFF, 0x01, 0x80, 0x0A, 0, 0x14⟩) (fun t => (t.wires.event, t.history)) =
      some (.noEvent, [.outcome .unrecognizedGesture]) ∧
    seen .decode (curWith Packet.zero endV23) (fun t => (t.wires.event, t.history)) = some (.endAt 12#12 22#12, []) ∧
    seen .decode (curWith Packet.zero noneV31) (fun t => (t.wires.event, t.history)) =
      some (.noEvent, [.outcome .unrecognizedPhaseCombination]) ∧
    seen .decode (curWith Packet.zero ⟨0, 0, 0x11, 0xB1, 0x23, 0x74, 0x56⟩) (fun t => (t.wires.event, t.history)) =
      some (.moveAt 291#12 1110#12, []) := by decide

/-- S5 and R84: the words of the four events. -/
theorem test_pack :
    seen .pack { State.reset with wires := { Wires.quiet with event := .startAt 0#12 0#12 } } (·.wires.word) =
      some 0x01000000#32 ∧
    seen .pack { State.reset with wires := { Wires.quiet with event := .endAt 12#12 22#12 } } (·.wires.word) =
      some 0x0400C016#32 ∧
    seen .pack { State.reset with wires := { Wires.quiet with word := 1#32 } } (·.wires.word) = some 0#32 := by decide

/-- R79 to R82, S5: packet classes and word shapes. -/
theorem test_classes_and_shapes :
    seen (.evStart noBits 10#12 20#12) State.reset (·.wires.event) = some (.startAt 10#12 20#12) ∧
    seen (.evMove noBits 12#12 22#12) State.reset (·.wires.event) = some (.moveAt 12#12 22#12) ∧
    seen (.evEnd noBits 12#12 22#12) State.reset (·.wires.event) = some (.endAt 12#12 22#12) ∧
    seen (.evNone gateV38) State.reset (·.history) = some [.outcome .unrecognizedGesture] ∧
    seen .pktDup State.reset (·.history) = some [.outcome .duplicateFrame] ∧
    seen .evwNone State.reset (·.wires.word) = some 0#32 ∧
    seen (.evwStart 4095#12 4095#12) State.reset (·.wires.word) = some 0x01FFFFFF#32 ∧
    seen (.evwMove 4095#12 4095#12) State.reset (·.wires.word) = some 0x02FFFFFF#32 ∧
    seen (.evwEnd 4095#12 4095#12) State.reset (·.wires.word) = some 0x04FFFFFF#32 := by decide

/-- P3, polls 1 and 3. -/
theorem test_seq_drain1 :
    seen .seqDrain1 (seqWith .drain1 endV23 .ok (.ok startV20)) (fun t => (t.seq, t.prev)) = some (.drain1, startV20) ∧
    seen .seqDrain1 (seqWith .drain1 startV20 .ok (.ok startV20)) (fun t => (t.seq, t.prev)) =
      some (.awaitStart, startV20) := by decide

/-- P2, poll 2; V63: an End before a Start is discarded. -/
theorem test_seq_await_start :
    seen .seqAwaitStart (seqWith .awaitStart Packet.zero .ok (.ok startV20)) (fun t => (t.seq, t.r)) =
      some (.awaitEnd, 0#32) ∧
    seen .seqAwaitStart (seqWith .awaitStart Packet.zero .ok (.ok endV23)) (fun t => (t.seq, t.r)) =
      some (.awaitStart, 0#32) := by decide

/-- P2, polls 3 and 5. -/
theorem test_seq_await_end :
    seen .seqAwaitEnd (seqWith .awaitEnd startV20 .ok (.ok moveV21)) (fun t => (t.seq, t.r)) = some (.awaitEnd, 0#32) ∧
    seen .seqAwaitEnd (seqWith .awaitEnd moveV21 .ok (.ok endV23)) (fun t => (t.seq, t.r)) =
      some (.drain2, 0x0400C016#32) := by decide

/-- P3, poll 14; P2, poll 6. -/
theorem test_seq_drain2 :
    seen .seqDrain2 { seqWith .drain2 startV20 .ok (.ok endV23) with r := 0x04033032#32 } (fun t => (t.seq, t.r)) =
      some (.drain2, 0x04033032#32) ∧
    seen .seqDrain2 { seqWith .drain2 endV23 .ok (.ok endV23) with r := 0x0400C016#32 } (fun t => (t.seq, t.r)) =
      some (.done, 0x0400C016#32) := by decide

/-- P2, the last line. -/
theorem test_seq_done :
    seen .seqDone { State.reset with seq := .done, r := 0x0400C016#32 } (fun t => (t.seq, t.r, t.response)) =
      some (.idle, 0x0400C016#32, some 0x0400C016#32) := by decide

/-- P1, command 1, as a step of the machine: the command is on the port. -/
theorem test_step_read_event :
    (nextOf (step { idleWith Packet.zero .ok (.ok ⟨0, 0, 0x01, 0, 0x64, 0, 0xC8⟩) with pins := [⟨0b01#2, .quiet⟩] })).map
      (fun t => (t.response, t.seq, t.pins)) = some (some 0x010640C8#32, .idle, []) := by decide

/-- R42: 0b10 on the port of a busy block is not looked at. -/
theorem test_step_busy :
    (nextOf (step { seqWith .drain2 endV23 .ok (.ok endV23) with pins := [⟨0b10#2, .quiet⟩] })).map
      (fun t => (t.seq, t.response)) = some (.done, none) := by decide

/-- R125: a block reset during a command. -/
theorem test_step_block_reset :
    (nextOf (step { seqWith .awaitEnd endV23 .ok .fail with pins := [⟨0b00#2, .blockReset⟩] })).map
      (fun t => (t.seq, t.prev, t.response, t.writeAnswers)) = some (.idle, Packet.zero, none, [.ok]) := by decide

/-- The words of spec/opcode_table.json, and that the next step runs what was placed. -/
theorem test_table_words :
    decodeTableWord 2 1 = some .readEvent ∧ decodeTableWord 3 5 = some .seqDone ∧
    decodeTableWord 8 2 = some .awaitClick ∧ decodeTableWord 8 5 = some .seqDone ∧
    decodeTableWord 32 0x02000000 = some (.evwMove 0#12 0#12) ∧
    decodeTableWord 56 0x00000100000000 = some (.evStart noBits 0#12 0#12) ∧ decodeTableWord 8 6 = none := by decide

theorem test_placed_word :
    (nextOf (step (State.reset.withFetchWord 32 0x0400C016))).map (·.response) = some (some 0x0400C016#32) := by decide

/-! Witnesses: the hypotheses of each statement are met together. -/

theorem witness_DecodeOfEncode :
    Instr.wellFormed startV20 (.evStart noBits 4095#12 0#12) = true ∧
    Instr.wellFormed startV20 (.evMove noBits 0#12 4095#12) = true ∧
    Instr.wellFormed startV20 (.evEnd noBits 0#12 0#12) = true ∧
    Instr.wellFormed startV20 (.evNone Packet.zero) = true := by decide

theorem witness_EncodeOfDecode :
    decode startV20 (.pkt startV20.toPkt) = .ok .pktDup ∧ decode startV20 (.evw 0x04000000#32) = .ok (.evwEnd 0#12 0#12) := by
  decide

/-- One packet for each clause, one of them a Start packet that is PREV and so falls under the first clause alone. -/
theorem witness_PacketClassesByMask :
    (0x000001000A0014#56 = startV20.toPkt) ∧
    (0xAB00F13FFFFFFF#56 ≠ startV20.toPkt ∧ 0xAB00F13FFFFFFF#56 &&& 0x00FF0FC0000000#56 = 0x00000100000000#56) ∧
    (0x000011B1237456#56 ≠ startV20.toPkt ∧ 0x000011B1237456#56 &&& 0x00FF0FC0000000#56 = 0x00000180000000#56) ∧
    (0x5500E07234A567#56 ≠ startV20.toPkt ∧ 0x5500E07234A567#56 &&& 0x00FF0FC0000000#56 = 0x00000040000000#56) ∧
    (0x00000F40120345#56 ≠ startV20.toPkt ∧ 0x00000F40120345#56 &&& 0x00FF0FC0000000#56 ≠ 0x00000100000000#56 ∧
      0x00000F40120345#56 &&& 0x00FF0FC0000000#56 ≠ 0x00000180000000#56 ∧
      0x00000F40120345#56 &&& 0x00FF0FC0000000#56 ≠ 0x00000040000000#56) := by decide

theorem witness_EventWordBits :
    (NormalizedEvent.word .noEvent).extractLsb' 24 3 = 0b000#3 ∧ NormalizedEvent.startAt 0#12 0#12 ≠ .noEvent := by decide

theorem witness_PackThenUnpack :
    NormalizedEvent.word (.endAt 12#12 22#12) = NormalizedEvent.word (.endAt 12#12 22#12) := rfl

theorem witness_StepRunsSelectedOperation :
    (seqWith .awaitEnd moveV21 .ok (.ok endV23)).sample.platform = .quiet ∧
    decode moveV21 (.seq (seqWith .awaitEnd moveV21 .ok (.ok endV23)).seq.code) = .ok .seqAwaitEnd := by decide

theorem witness_IdleRunsPortCommand :
    decode Packet.zero (.cmd (portWith 0b01#2 .quiet).sample.cmd) = .ok .readEvent ∧
    decode Packet.zero (.cmd (portWith 0b10#2 .quiet).sample.cmd) = .ok .awaitClick ∧
    (portWith 0b01#2 .quiet).initDone = true ∧ (portWith 0b10#2 .quiet).initDone = true := by decide

theorem witness_NoCommandChangesNothing :
    (portWith 0b00#2 .quiet).seq = .idle ∧ (portWith 0b00#2 .quiet).sample = ⟨0b00#2, .quiet⟩ ∧
    (portWith 0b11#2 .quiet).seq = .idle ∧ (portWith 0b11#2 .quiet).sample = ⟨0b11#2, .quiet⟩ := by decide

theorem witness_BlockResetInitialises : (portWith 0b10#2 .blockReset).sample.platform = .blockReset := by decide

theorem witness_ControllerInitKeepsBlock : (portWith 0b10#2 .controllerInit).sample.platform = .controllerInit := by decide

theorem witness_LaunchPremiseRequired :
    ({ State.reset with initDone := false } : State).initDone = false ∧
    ({ State.reset with initDone := false } : State).seq = .idle := by decide

theorem witness_EmptyCurChangesNothing : State.reset.cur = none := by decide

theorem witness_RegisterSelectWrite : State.reset.initDone = true ∧ State.reset.writeAnswers = [] ∧
    (idleWith Packet.zero .ok .fail).initDone = true ∧ (idleWith Packet.zero .ok .fail).writeAnswers ≠ [] := by decide

theorem witness_PacketReadTransfer : State.reset.initDone = true ∧ State.reset.readAnswers = [] ∧
    (idleWith Packet.zero .ok .fail).initDone = true ∧ (idleWith Packet.zero .ok .fail).readAnswers ≠ [] := by decide

theorem witness_FrameReaderOutcomes :
    ((idleWith startV20 .fail .fail).initDone = true ∧ (idleWith startV20 .fail .fail).seq = .idle ∧
      (idleWith startV20 .fail .fail).writeAnswer = .fail) ∧
    ((idleWith startV20 .ok .fail).writeAnswer = .ok ∧ pollReadAnswer (idleWith startV20 .ok .fail) = .fail) ∧
    ((idleWith startV20 .ok (.ok moveV21)).writeAnswer = .ok ∧
      pollReadAnswer (idleWith startV20 .ok (.ok moveV21)) = .ok moveV21) := by decide

/-- Equal in all bytes, and different in the last bit only (V12, V15). -/
theorem witness_DuplicateFilterResult :
    ((curWith startV20 startV20).cur = some startV20 ∧ startV20 = (curWith startV20 startV20).prev) ∧
    ((curWith startV20 { startV20 with p6 := 0x15 }).cur = some { startV20 with p6 := 0x15 } ∧
      ({ startV20 with p6 := 0x15 } : Packet).p6 ≠ (curWith startV20 { startV20 with p6 := 0x15 }).prev.p6) := by decide

theorem witness_DuplicateIsDiscarded :
    (idleWith startV20 .ok (.ok startV20)).initDone = true ∧ (idleWith startV20 .ok (.ok startV20)).seq = .idle ∧
    (idleWith startV20 .ok (.ok startV20)).writeAnswer = .ok ∧
    pollReadAnswer (idleWith startV20 .ok (.ok startV20)) = .ok (idleWith startV20 .ok (.ok startV20)).prev := by decide

/-- One packet for each clause, at the ends of the ranges: points 1 with its high nibble set, phase byte 0x3F, 0xBF, 0x7F. -/
theorem witness_DecisionTable :
    (curWith Packet.zero startV20).cur = some startV20 ∧ gateV38.p1 ≠ 0x00#8 ∧
    ((0xF1#8).toNat % 16 = 1 ∧ (0x3F#8).toNat / 64 = 0) ∧ ((0x01#8).toNat % 16 = 1 ∧ (0xBF#8).toNat / 64 = 2) ∧
    ((0xF0#8).toNat % 16 = 0 ∧ (0x7F#8).toNat / 64 = 1) ∧
    (¬ ((0x0F#8).toNat % 16 = 1 ∧ ((0x40#8).toNat / 64 = 0 ∨ (0x40#8).toNat / 64 = 2)) ∧
      ¬ ((0x0F#8).toNat % 16 = 0 ∧ (0x40#8).toNat / 64 = 1)) := by decide

theorem witness_GestureGate :
    (curWith Packet.zero gateV38).cur = some gateV38 ∧ gateV38.p1 ≠ Config.noGesture := by decide

theorem witness_NoneClassDelivers :
    gateV38.p1 ≠ Config.noGesture ∧ noneV31.p1 = Config.noGesture ∧
    Instr.wellFormed State.reset.prev (.evNone noneV31) = true := by decide

theorem witness_PackWords :
    State.reset.wires.event = .noEvent ∧
    ({ State.reset with wires := { Wires.quiet with event := .startAt 0#12 4095#12 } } : State).wires.event =
      .startAt 0#12 4095#12 := by decide

/-- One state for each line of R93. -/
theorem witness_PollOutcomeTable :
    ((idleWith startV20 .fail .fail).initDone = true ∧ (idleWith startV20 .fail .fail).seq = .idle ∧
      (idleWith startV20 .fail .fail).writeAnswer = .fail) ∧
    ((idleWith startV20 .ok .fail).writeAnswer = .ok ∧ pollReadAnswer (idleWith startV20 .ok .fail) = .fail) ∧
    (∀ p : Packet, (idleWith startV20 .ok (.ok p)).writeAnswer = .ok ∧
      pollReadAnswer (idleWith startV20 .ok (.ok p)) = .ok p) ∧
    (gateV38 ≠ startV20 ∧ gateV38.gesture ≠ Config.noGesture) ∧
    (startV20 ≠ Packet.zero ∧ startV20.gesture = Config.noGesture ∧ startV20.points = 1#8 ∧ startV20.phase = 0x00#8) ∧
    (moveV21 ≠ Packet.zero ∧ moveV21.gesture = Config.noGesture ∧ moveV21.points = 1#8 ∧ moveV21.phase = 0x80#8) ∧
    (endV23 ≠ Packet.zero ∧ endV23.gesture = Config.noGesture ∧ endV23.points = 0#8 ∧ endV23.phase = 0x40#8) ∧
    (noneV31 ≠ Packet.zero ∧ noneV31.gesture = Config.noGesture ∧
      ¬ (noneV31.points = 1#8 ∧ (noneV31.phase = 0x00#8 ∨ noneV31.phase = 0x80#8)) ∧
      ¬ (noneV31.points = 0#8 ∧ noneV31.phase = 0x40#8)) :=
  ⟨by decide, by decide, fun _ => ⟨rfl, rfl⟩, by decide, by decide, by decide, by decide, by decide⟩

/-- S7 with a failed read in between (V55 to V57): Move, failure, the same Move. -/
def repeating : State :=
  { State.reset with writeAnswers := [.ok, .ok, .ok], readAnswers := [.ok moveV21, .fail, .ok moveV21] }

theorem witness_RepeatedPacketIsSilent :
    0 < 2 ∧ (afterPoll^[0] repeating).writeAnswer = .ok ∧ pollReadAnswer (afterPoll^[0] repeating) = .ok moveV21 ∧
    ∀ i, 0 < i → i ≤ 2 → (afterPoll^[i] repeating).writeAnswer = .ok →
      ∀ q, pollReadAnswer (afterPoll^[i] repeating) = .ok q → q = moveV21 := by
  refine ⟨by decide, by decide, by decide, fun i h1 h2 _ q hq => ?_⟩
  have h : i = 1 ∨ i = 2 := by omega
  rcases h with rfl | rfl
  · have h : pollReadAnswer (afterPoll^[1] repeating) = .fail := by decide
    rw [h] at hq
    cases hq
  · have h : pollReadAnswer (afterPoll^[2] repeating) = .ok moveV21 := by decide
    rw [h] at hq
    simpa using hq.symm

/-- V51 to V53: A, N, A. -/
def alternating : State :=
  { State.reset with writeAnswers := [.ok, .ok, .ok], readAnswers := [.ok moveV21, .ok gateV38, .ok moveV21] }

theorem witness_AlternatingPacketIsReported :
    moveV21 ≠ gateV38 ∧ (afterPoll^[0] alternating).writeAnswer = .ok ∧ (afterPoll^[1] alternating).writeAnswer = .ok ∧
    (afterPoll^[2] alternating).writeAnswer = .ok ∧ pollReadAnswer alternating = .ok moveV21 ∧
    pollReadAnswer (afterPoll^[1] alternating) = .ok gateV38 ∧
    pollReadAnswer (afterPoll^[2] alternating) = .ok moveV21 := by decide

theorem witness_NonzeroWordIsFreshEvent : pollWord (idleWith Packet.zero .ok (.ok startV20)) ≠ 0#32 := by decide

/-- Two states that agree on PREV and the answers and differ in R, SEQ, CUR and the port. -/
theorem witness_PollDependsOnPrevAndAnswers :
    (idleWith startV20 .ok (.ok endV23)).prev = ({ seqWith .drain2 startV20 .ok (.ok endV23) with
      r := 1#32, cur := some moveV21, pins := [⟨0b10#2, .quiet⟩] } : State).prev ∧
    (idleWith startV20 .ok (.ok endV23)).writeAnswers = (seqWith .drain2 startV20 .ok (.ok endV23)).writeAnswers ∧
    (idleWith startV20 .ok (.ok endV23)).readAnswers = (seqWith .drain2 startV20 .ok (.ok endV23)).readAnswers ∧
    (idleWith startV20 .ok (.ok endV23)).draws = (seqWith .drain2 startV20 .ok (.ok endV23)).draws := by decide

theorem witness_FailuresLookAlike :
    (idleWith startV20 .fail .fail).initDone = true ∧ (idleWith startV20 .ok (.ok startV20)).initDone = true ∧
    (idleWith startV20 .fail .fail).seq = .idle ∧ (idleWith startV20 .ok (.ok startV20)).seq = .idle ∧
    (idleWith startV20 .fail .fail).prev = (idleWith startV20 .ok (.ok startV20)).prev ∧
    (idleWith startV20 .fail .fail).r = (idleWith startV20 .ok (.ok startV20)).r ∧
    (idleWith startV20 .fail .fail).writeAnswer = .fail ∧ (idleWith startV20 .ok (.ok startV20)).writeAnswer = .ok ∧
    pollReadAnswer (idleWith startV20 .ok (.ok startV20)) = .ok (idleWith startV20 .ok (.ok startV20)).prev ∧
    ((idleWith startV20 .ok .fail).writeAnswer = .ok ∧ pollReadAnswer (idleWith startV20 .ok .fail) = .fail) := by decide

theorem witness_AwaitClickAccepted :
    (State.reset.initDone = true ∧ State.reset.seq = .idle ∧ State.reset.ready = true ∧
      (nextOf (exec .awaitClick State.reset)).isSome = true) ∧
    (({ State.reset with seq := .done } : State).sample.platform ≠ .blockReset ∧
      ({ State.reset with seq := .done } : State).ready = false ∧
      (nextOf (step { State.reset with seq := .done })).map (·.ready) = some true) := by decide

/-- The premise of FirstDrainStep, AwaitStartStep, AwaitEndStep and SecondDrainStep, with a word for each branch. -/
theorem witness_PollingSteps :
    (seqWith .drain1 startV20 .ok (.ok startV20)).initDone = true ∧
    pollWord (seqWith .drain1 startV20 .ok (.ok startV20)) = 0#32 ∧
    pollWord (seqWith .awaitStart Packet.zero .ok (.ok startV20)) &&& 0x01000000#32 ≠ 0#32 ∧
    pollWord (seqWith .awaitEnd moveV21 .ok (.ok endV23)) &&& 0x04000000#32 ≠ 0#32 ∧
    pollWord (seqWith .awaitEnd startV20 .ok (.ok moveV21)) &&& 0x04000000#32 = 0#32 := by decide

/-- One state for each row of R102. -/
theorem witness_TransitionTable :
    (portWith 0b00#2 .quiet).initDone = true ∧ (portWith 0b00#2 .quiet).sample = ⟨0b00#2, .quiet⟩ ∧
    (portWith 0b01#2 .quiet).sample = ⟨0b01#2, .quiet⟩ ∧ (portWith 0b10#2 .quiet).sample = ⟨0b10#2, .quiet⟩ ∧
    (∀ q : Seq, (seqWith q startV20 .ok (.ok moveV21)).seq = q ∧
      (seqWith q startV20 .ok (.ok moveV21)).initDone = true ∧
      (seqWith q startV20 .ok (.ok moveV21)).sample.platform = .quiet) :=
  ⟨by decide, by decide, by decide, by decide, fun _ => ⟨rfl, rfl, rfl⟩⟩

theorem witness_SequencerOnlyMovesForward :
    (nextOf (step (seqWith .awaitEnd moveV21 .ok (.ok endV23)))).map (·.seq) = some .drain2 ∧
    (seqWith .awaitEnd moveV21 .ok (.ok endV23)).sample.platform = .quiet := by decide

theorem witness_BusyIgnoresCommand : (seqWith .drain1 startV20 .ok .fail).seq ≠ .idle := by decide

/-- P4, with two failing writes. -/
def deadBus : State := { portWith 0b10#2 .quiet with writeAnswers := [.fail, .fail] }

theorem witness_DeadBusNeverResponds :
    deadBus.initDone = true ∧ deadBus.seq = .idle ∧ deadBus.sample.cmd = 0b10#2 ∧ QuietPlatform deadBus ∧
    deadBus.writeAnswers = List.replicate 2 .fail ++ [] :=
  ⟨by decide, by decide, by decide, by unfold QuietPlatform; decide, by decide⟩

theorem witness_PollingStateWaitsForItsWord :
    QuietPlatform (seqWith .drain1 Packet.zero .ok (.ok moveV21)) ∧
    wordAt 0 (seqWith .drain1 Packet.zero .ok (.ok moveV21)) ≠ 0#32 ∧
    kindOf (wordAt 0 (seqWith .awaitStart Packet.zero .ok (.ok endV23))) ≠ some .startKind ∧
    kindOf (wordAt 0 (seqWith .awaitEnd Packet.zero .ok (.ok moveV21))) ≠ some .endKind :=
  ⟨by unfold QuietPlatform; decide, by decide, by decide, by decide⟩

/-- P2 after its acceptance: the words None, Start, Move, Move, End, None. -/
def clickP2 : State :=
  { State.reset with
    seq := .drain1
    writeAnswers := [.fail, .ok, .ok, .ok, .ok, .ok]
    readAnswers := [.ok startV20, .ok moveV21, .ok ⟨0, 0, 0x01, 0x80, 0x0C, 0, 0x16⟩, .ok endV23, .ok endV23] }

theorem witness_AwaitClickRespondsOnce :
    clickP2.initDone = true ∧ QuietPlatform clickP2 ∧ clickP2.seq = .drain1 ∧
    (∀ k, k < 0 → wordAt k clickP2 ≠ 0#32) ∧ wordAt 0 clickP2 = 0#32 ∧
    0 < 1 ∧ (∀ k, 0 < k → k < 1 → kindOf (wordAt k clickP2) ≠ some .startKind) ∧
    kindOf (wordAt 1 clickP2) = some .startKind ∧
    1 < 4 ∧ (∀ k, 1 < k → k < 4 → kindOf (wordAt k clickP2) ≠ some .endKind) ∧
    kindOf (wordAt 4 clickP2) = some .endKind ∧
    4 < 5 ∧ (∀ k, 4 < k → k < 5 → wordAt k clickP2 ≠ 0#32) ∧ wordAt 5 clickP2 = 0#32 := by
  refine ⟨by decide, by unfold QuietPlatform; decide, by decide, by omega, by decide, by decide, by omega, by decide,
    by decide, fun k h1 h2 => ?_, by decide, by decide, by omega, by decide⟩
  have h : k = 2 ∨ k = 3 := by omega
  rcases h with rfl | rfl <;> decide

/-- The premises of the statements that a step keeps an invariant: the reset state meets them, and a step from it answers
next. -/
theorem witness_Invariants :
    WiresQuiet State.reset ∧ PrevIsLastPacket State.reset ∧ CommandsAnswered State.reset ∧ BusLegal State.reset ∧
    ∃ t, step State.reset = .next t := ⟨rfl, rfl, rfl, rfl, _, rfl⟩

/-- A block in DONE with an End word in R. -/
theorem witness_StepKeepsEndCapturedAndResponsesShaped :
    EndCaptured { State.reset with seq := .done, r := 0x0400C016#32 } ∧
    ResponsesShaped { State.reset with seq := .done, r := 0x0400C016#32 } ∧
    ({ State.reset with seq := .done } : State).sample.platform = .quiet ∧
    ∃ t, step { State.reset with seq := .done, r := 0x0400C016#32 } = .next t := by
  refine ⟨fun _ => ⟨12#12, 22#12, by decide⟩, ⟨?_, ?_⟩, rfl, _, rfl⟩
  · intro w h; cases h
  · intro w h; cases h

theorem witness_StepNeverFaults : State.reset.initDone = true := rfl

theorem witness_StepCompletesAfterInit : State.reset.initDone = true := rfl

/-- An operation that writes each register. -/
theorem witness_RegisterWriters :
    seen .dupFilter (curWith Packet.zero startV20) (·.prev) = some startV20 ∧
    seen .pollFrame (idleWith Packet.zero .ok (.ok startV20)) (·.cur) = some (some startV20) ∧
    seen .seqAwaitEnd (seqWith .awaitEnd moveV21 .ok (.ok endV23)) (·.r) = some 0x0400C016#32 ∧
    seen .awaitClick State.reset (·.seq) = some .drain1 := by decide

theorem witness_FirstPacketAfterReset : Packet.zero = Packet.zero ∧ moveV21 ≠ Packet.zero := by decide

theorem witness_PlacedWordRuns :
    3 < 4 ∧ decodeTableWord 3 5 = some .seqDone ∧ startV20 ≠ State.reset.prev := by decide

end Sys2Proof.Tests
end

section
/-! SUPPORT. The step and the writers of the state's fields: what a step runs, what each stage, command and
sequencer step leaves unchanged, and the statements about the state that follow (10_state.md R11 to R22). -/

namespace Sys2Proof.Machine

/-! What a step runs. -/

/-- Without a platform event a step runs the operation that SEQ selects (R16, R57). -/
theorem step_of_quiet {s : State} (h : s.sample.platform = .quiet) :
    step s = mapNext State.advance (exec s.seq.instr s.takeResponse) := by
  simp only [step, h]

/-- A block reset takes the whole step (R125). -/
theorem step_of_blockReset {s : State} (h : s.sample.platform = .blockReset) :
    step s = .next s.blockReset.advance := by
  simp only [step, h]

/-! What a stage leaves unchanged. -/

/-- POLL_FRAME writes CUR and no other register (R11 to R14). -/
@[simp] theorem frameStage_frame (s : State) :
    (frameStage s).prev = s.prev ∧ (frameStage s).r = s.r ∧ (frameStage s).seq = s.seq ∧
      (frameStage s).initDone = s.initDone ∧ (frameStage s).pins = s.pins := by
  cases hw : s.writeAnswer with
  | fail => simp [frameStage_writeFail hw, regSelectWrite_eq]
  | ok =>
    cases hr : pollReadAnswer s with
    | fail => simp [frameStage_readFail hw hr, regSelectWrite_eq, packetRead_eq]
    | ok p => simp [frameStage_fresh hw hr, regSelectWrite_eq, packetRead_eq]

/-- DUP_FILTER writes PREV and no other register (R72, R73). -/
@[simp] theorem filterStage_frame (p : Packet) (s : State) :
    (filterStage p s).cur = s.cur ∧ (filterStage p s).r = s.r ∧ (filterStage p s).seq = s.seq ∧
      (filterStage p s).initDone = s.initDone ∧ (filterStage p s).pins = s.pins := by
  by_cases h : p = s.prev
  · simp [filterStage_duplicate h]
  · simp [filterStage_pass h]

/-- DECODE writes no register (R87). -/
@[simp] theorem decodeStage_frame (p : Packet) (s : State) :
    (decodeStage p s).prev = s.prev ∧ (decodeStage p s).cur = s.cur ∧ (decodeStage p s).r = s.r ∧
      (decodeStage p s).seq = s.seq ∧ (decodeStage p s).initDone = s.initDone ∧ (decodeStage p s).pins = s.pins := by
  by_cases h : p.event = .noEvent
  · simp [decodeStage_miss h]
  · simp [decodeStage_event h]

/-- PACK writes no register (R87). -/
@[simp] theorem packStage_frame (e : NormalizedEvent) (s : State) :
    (packStage e s).prev = s.prev ∧ (packStage e s).cur = s.cur ∧ (packStage e s).r = s.r ∧
      (packStage e s).seq = s.seq ∧ (packStage e s).initDone = s.initDone ∧ (packStage e s).pins = s.pins := by
  by_cases h : e = .noEvent
  · simp [h]
  · simp [packStage_event h]

/-! What an operation that polls leaves unchanged, and that it leaves the wires quiet. -/

/-- After a poll its stages' results are gone; R, SEQ, the inputs and the launch premise are as before (R17, R21, R90). -/
@[simp] theorem afterPoll_frame (s : State) :
    (afterPoll s).wires = .quiet ∧ (afterPoll s).r = s.r ∧ (afterPoll s).seq = s.seq ∧
      (afterPoll s).initDone = s.initDone ∧ (afterPoll s).pins = s.pins := by
  simp [afterPoll]

/-- An accepted READ_EVENT writes neither R nor SEQ (R92). -/
@[simp] theorem readEvent_frame (s : State) :
    (readEvent s).wires = .quiet ∧ (readEvent s).r = s.r ∧ (readEvent s).seq = s.seq ∧
      (readEvent s).initDone = s.initDone ∧ (readEvent s).pins = s.pins := by
  simp [readEvent]

/-- The acceptance of AWAIT_CLICK writes R and SEQ alone (R96). -/
@[simp] theorem acceptAwaitClick_frame (s : State) :
    (acceptAwaitClick s).wires = s.wires ∧ (acceptAwaitClick s).prev = s.prev ∧ (acceptAwaitClick s).cur = s.cur ∧
      (acceptAwaitClick s).initDone = s.initDone ∧ (acceptAwaitClick s).pins = s.pins := by
  simp [acceptAwaitClick]

/-- DRAIN1 does not write R (R97). -/
@[simp] theorem drain1Step_frame (s : State) :
    (drain1Step s).wires = .quiet ∧ (drain1Step s).r = s.r ∧
      (drain1Step s).initDone = s.initDone ∧ (drain1Step s).pins = s.pins := by
  simp [drain1Step]

/-- AWAIT_START does not write R: a Start word's coordinates are discarded (R98). -/
@[simp] theorem awaitStartStep_frame (s : State) :
    (awaitStartStep s).wires = .quiet ∧ (awaitStartStep s).r = s.r ∧
      (awaitStartStep s).initDone = s.initDone ∧ (awaitStartStep s).pins = s.pins := by
  simp [awaitStartStep]

/-- AWAIT_END leaves the inputs and the launch premise, whether its word is an End word or not (R99). -/
@[simp] theorem awaitEndStep_frame (s : State) :
    (awaitEndStep s).wires = .quiet ∧ (awaitEndStep s).initDone = s.initDone ∧ (awaitEndStep s).pins = s.pins := by
  by_cases h : kindOf (pollWord s) = some .endKind
  · simp [awaitEndStep, h]
  · simp [awaitEndStep, h]

/-- DRAIN2 does not write R (R100). -/
@[simp] theorem drain2Step_frame (s : State) :
    (drain2Step s).wires = .quiet ∧ (drain2Step s).r = s.r ∧
      (drain2Step s).initDone = s.initDone ∧ (drain2Step s).pins = s.pins := by
  simp [drain2Step]

/-- DONE writes SEQ alone of the registers (R101). -/
@[simp] theorem doneStep_frame (s : State) :
    (doneStep s).wires = s.wires ∧ (doneStep s).prev = s.prev ∧ (doneStep s).cur = s.cur ∧ (doneStep s).r = s.r ∧
      (doneStep s).initDone = s.initDone ∧ (doneStep s).pins = s.pins := by
  simp [doneStep]

/-! What a host command can do, run by itself. -/

/-- Everything READ_EVENT can do: nothing while busy, or one poll with its response (R42, R92). -/
theorem execReadEvent_cases {s t : State} (h : execReadEvent s = .next t) :
    t = s ∨ (s.seq = .idle ∧ s.initDone = true ∧ t = readEvent s) := by
  unfold execReadEvent at h
  split at h
  case isTrue hready =>
    obtain ⟨hinit, rfl⟩ := (withInit_next _).1 h
    exact .inr ⟨by simpa [State.ready] using hready, hinit, rfl⟩
  case isFalse => exact .inl (Host.Outcome.next.inj h).symm

/-- Everything AWAIT_CLICK can do: nothing while busy, or its acceptance (R42, R96). -/
theorem execAwaitClick_cases {s t : State} (h : execAwaitClick s = .next t) :
    t = s ∨ (s.seq = .idle ∧ s.initDone = true ∧ t = acceptAwaitClick s) := by
  unfold execAwaitClick at h
  split at h
  case isTrue hready =>
    obtain ⟨hinit, rfl⟩ := (withInit_next _).1 h
    exact .inr ⟨by simpa [State.ready] using hready, hinit, rfl⟩
  case isFalse => exact .inl (Host.Outcome.next.inj h).symm

/-! The statements about the state. -/

/-- SEQ_IDLE leaves quiet wires quiet: a poll it makes is settled, and an acceptance touches no wire. -/
theorem execSeqIdle_wiresQuiet {s t : State} (hs : WiresQuiet s) (h : execSeqIdle s = .next t) : WiresQuiet t := by
  rcases execSeqIdle_cases h with rfl | ⟨-, -, -, rfl⟩ | ⟨-, -, -, rfl⟩
  · exact hs
  · simp [WiresQuiet]
  · exact hs

/-- Settles O46: the steps that poll settle the wires afterwards, all others leave them alone or reset them. -/
theorem stepKeepsWiresQuiet : Obligations.StepKeepsWiresQuiet := by
  intro s t hs h
  rcases step_cases h with ⟨-, rfl⟩ | ⟨-, rfl⟩ | ⟨-, u, rfl, hu⟩
  · rfl
  · exact hs
  · change WiresQuiet u
    rcases hu with ⟨-, hidle⟩ | ⟨-, -, rfl⟩ | ⟨-, -, rfl⟩ | ⟨-, -, rfl⟩ | ⟨-, -, rfl⟩ | ⟨-, rfl⟩
    · exact execSeqIdle_wiresQuiet (s := s.takeResponse) hs hidle
    · simp [WiresQuiet]
    · simp [WiresQuiet]
    · simp [WiresQuiet]
    · simp [WiresQuiet]
    · exact hs

/-- Settles O53, operation by operation: each answers one state, and the frame of that state's function gives the
registers it does not write. -/
theorem registerWriters : Obligations.RegisterWriters := by
  intro i s t h
  cases i with
  | cmdNone | cmdRsvd | pack | pktDup | evStart | evMove | evEnd | evNone | evwNone | evwStart | evwMove | evwEnd
  | seqDone =>
    obtain rfl := Host.Outcome.next.inj h
    simp
  | busRegsel | busRead7 =>
    obtain ⟨-, rfl⟩ := (withInit_next _).1 h
    simp [regSelectWrite_eq, packetRead_eq]
  | pollFrame | seqDrain1 | seqAwaitStart | seqAwaitEnd | seqDrain2 =>
    obtain ⟨-, rfl⟩ := (withInit_next _).1 h
    simp
  | dupFilter | decode =>
    obtain ⟨-, rfl⟩ | ⟨p, -, rfl⟩ := (withCur_next _).1 h
    · simp
    · simp
  | readEvent =>
    obtain rfl | ⟨-, -, rfl⟩ := execReadEvent_cases h
    · simp
    · simp
  | awaitClick =>
    obtain rfl | ⟨-, -, rfl⟩ := execAwaitClick_cases h
    · simp
    · simp
  | seqIdle =>
    obtain rfl | ⟨-, -, -, rfl⟩ | ⟨-, -, -, rfl⟩ := execSeqIdle_cases h
    · simp
    · simp
    · simp

/-- Settles O9: the code of SEQ decodes to exactly the operation that SEQ selects. -/
theorem stepRunsSelectedOperation : Obligations.StepRunsSelectedOperation := by
  intro s i hquiet hi
  obtain rfl : s.seq.instr = i := by simpa [decode_seq_code] using hi
  exact step_of_quiet hquiet

/-- Settles O12: the step answers `State.reset` but for the inputs, the environment's answers and the launch premise. -/
theorem blockResetInitialises : Obligations.BlockResetInitialises := by
  refine ⟨fun s hreset => ⟨_, step_of_blockReset hreset, ?_⟩, ?_⟩
  · exact ⟨rfl, rfl, rfl, rfl, rfl, rfl, rfl, rfl, rfl, rfl⟩
  · exact ⟨rfl, rfl, rfl, rfl, rfl, rfl⟩

/-- Settles O45: in the reset state SEQ is idle, the history is empty and no response stands on the port. -/
theorem resetMeetsInvariants : Obligations.ResetMeetsInvariants := by
  have hend : EndCaptured State.reset := by rintro (h | h) <;> cases h
  have hshaped : ResponsesShaped State.reset := ⟨fun w h => (by cases h), fun w h => (by cases h)⟩
  exact ⟨rfl, hend, hshaped, rfl, rfl, rfl⟩

end Sys2Proof.Machine
end

section
/-! SUPPORT. The bus and the launch premise: what the machine's operations append to the history, that every append keeps the
order of the transfers, and that every operation completes under the launch premise (20_memory.md R26, R29, R35). -/

namespace Sys2Proof.Machine

/-! The order of the transfers in a history. -/

/-- A legal history has no selected register left at its end, so a legal one may follow it. -/
theorem busOrder_append {b : Bool} {h k : List HistoryEvent} (hh : BusOrder b h) (hk : BusOrder false k) :
    BusOrder b (h ++ k) := by
  induction h generalizing b with
  | nil =>
    obtain rfl : b = false := hh
    exact hk
  | cons e h ih =>
    match e with
    | .transfer (.write _ _ _ _) =>
      obtain ⟨hb, ha, hd, ht, hrest⟩ := hh
      exact ⟨hb, ha, hd, ht, ih hrest⟩
    | .transfer (.read _ _ _ _) =>
      obtain ⟨hb, ha, hn, ht, hrest⟩ := hh
      exact ⟨hb, ha, hn, ht, ih hrest⟩
    | .accepted _ | .response _ | .outcome _ =>
      obtain ⟨hb, hrest⟩ := hh
      exact ⟨hb, ih hrest⟩

/-- An accepted command alone is no transfer. -/
theorem busOrder_accepted (c : HostCommand) : BusOrder false [.accepted c] := ⟨rfl, rfl⟩

/-- A response alone is no transfer. -/
theorem busOrder_response (w : EventWord) : BusOrder false [.response w] := ⟨rfl, rfl⟩

/-- A failed write is not followed by a read (R62, R67). -/
theorem busOrder_writeFail (c : Cause) : BusOrder false [regSelectEntry .fail, .outcome c] :=
  ⟨rfl, rfl, rfl, rfl, rfl, rfl⟩

/-- A write that answered ok is directly followed by its read, whatever the read answers (R62, R67). -/
theorem busOrder_writeRead (a : ReadAnswer) (c : Cause) :
    BusOrder false [regSelectEntry .ok, packetReadEntry a, .outcome c] :=
  ⟨rfl, rfl, rfl, rfl, rfl, rfl, rfl, rfl, rfl, rfl⟩

/-! What an operation appends to the history. -/

/-- The register-select write appends its entry (R61). -/
@[simp] theorem regSelectWrite_history (s : State) :
    (regSelectWrite s).history = s.history ++ [regSelectEntry s.writeAnswer] := rfl

/-- The packet read appends its entry (R62). -/
@[simp] theorem packetRead_history (s : State) :
    (packetRead s).history = s.history ++ [packetReadEntry s.readAnswer] := rfl

/-- The read of a poll that follows its write gets the poll's read answer (R62). -/
@[simp] theorem regSelectWrite_readAnswer (s : State) : (regSelectWrite s).readAnswer = pollReadAnswer s := rfl

/-- A poll appends its transfers and one outcome: a failed write alone, or a write with its read (R61, R62, R93). -/
theorem poll_history (s : State) :
    (∃ c, (poll s).history = s.history ++ [regSelectEntry .fail, .outcome c]) ∨
      ∃ a c, (poll s).history = s.history ++ [regSelectEntry .ok, packetReadEntry a, .outcome c] := by
  rcases poll_cases s with hw | ⟨hw, hr⟩ | ⟨p, hw, hr, hp | ⟨hp, he⟩ | ⟨hp, he⟩⟩
  · exact .inl ⟨.busWriteFailure, by simp [poll_writeFail hw, hw]⟩
  · exact .inr ⟨.fail, .busReadFailure, by simp [poll_readFail hw hr, hw, hr]⟩
  · exact .inr ⟨.ok p, .duplicateFrame, by simp [poll_duplicate hw hr hp, hw, hr]⟩
  · exact .inr ⟨.ok p, missCause p, by simp [poll_miss hw hr hp he, hw, hr]⟩
  · exact .inr ⟨.ok p, .eventProduced p.event.kind, by simp [poll_event hw hr hp he, hw, hr]⟩

@[simp] theorem drain1Step_history (s : State) : (drain1Step s).history = (poll s).history := rfl

@[simp] theorem awaitStartStep_history (s : State) : (awaitStartStep s).history = (poll s).history := rfl

@[simp] theorem awaitEndStep_history (s : State) : (awaitEndStep s).history = (poll s).history := by
  unfold awaitEndStep
  split <;> rfl

@[simp] theorem drain2Step_history (s : State) : (drain2Step s).history = (poll s).history := rfl

@[simp] theorem doneStep_history (s : State) : (doneStep s).history = s.history ++ [.response s.r] := rfl

@[simp] theorem acceptAwaitClick_history (s : State) :
    (acceptAwaitClick s).history = s.history ++ [.accepted .awaitClick] := rfl

/-- READ_EVENT's entries stand around those of its poll: the acceptance before, the response after (R92). -/
@[simp] theorem readEvent_history (s : State) :
    (readEvent s).history = (poll (s.log (.accepted .readEvent))).history ++
      [.response (pollWord (s.log (.accepted .readEvent)))] := rfl

/-! Each operation of a step keeps the bus legal. -/

/-- What a poll appends is legal, so a legal history stays legal (R26, R35). -/
theorem poll_busLegal {s : State} (hs : BusLegal s) : BusLegal (poll s) := by
  rcases poll_history s with ⟨c, h⟩ | ⟨a, c, h⟩
  · rw [BusLegal, h]
    exact busOrder_append hs (busOrder_writeFail c)
  · rw [BusLegal, h]
    exact busOrder_append hs (busOrder_writeRead a c)

/-- An accepted READ_EVENT keeps the bus legal: neither its acceptance nor its response comes between a write and its read. -/
theorem readEvent_busLegal {s : State} (hs : BusLegal s) : BusLegal (readEvent s) := by
  have hlog : BusLegal (s.log (.accepted .readEvent)) := busOrder_append hs (busOrder_accepted _)
  rw [BusLegal, readEvent_history]
  exact busOrder_append (poll_busLegal hlog) (busOrder_response _)

/-- SEQ_IDLE keeps the bus legal, whatever stands on the command port. -/
theorem execSeqIdle_busLegal {s t : State} (hs : BusLegal s) (h : execSeqIdle s = .next t) : BusLegal t := by
  rcases execSeqIdle_cases h with rfl | ⟨-, -, -, rfl⟩ | ⟨-, -, -, rfl⟩
  · exact hs
  · exact readEvent_busLegal hs
  · rw [BusLegal, acceptAwaitClick_history]
    exact busOrder_append hs (busOrder_accepted _)

/-- Settles O50: a step that is no reset keeps the history or appends a poll's transfers, an acceptance or a response, each
legal by itself; a block reset empties it. -/
theorem stepKeepsBusLegal : Obligations.StepKeepsBusLegal := by
  intro s t hs h
  rcases step_cases h with ⟨-, rfl⟩ | ⟨-, rfl⟩ | ⟨-, u, rfl, hu⟩
  · rfl
  · exact hs
  · have htaken : BusLegal s.takeResponse := hs
    change BusLegal u
    rcases hu with ⟨-, hidle⟩ | ⟨-, -, rfl⟩ | ⟨-, -, rfl⟩ | ⟨-, -, rfl⟩ | ⟨-, -, rfl⟩ | ⟨-, rfl⟩
    · exact execSeqIdle_busLegal htaken hidle
    · simpa [BusLegal] using poll_busLegal htaken
    · simpa [BusLegal] using poll_busLegal htaken
    · simpa [BusLegal] using poll_busLegal htaken
    · simpa [BusLegal] using poll_busLegal htaken
    · rw [BusLegal, doneStep_history]
      exact busOrder_append htaken (busOrder_response _)

/-! Completion under the launch premise. -/

/-- READ_EVENT completes: it polls, or the block is busy (R42, R92). -/
theorem execReadEvent_completes {s : State} (h : s.initDone = true) : ∃ t, execReadEvent s = .next t := by
  unfold execReadEvent
  split
  · exact ⟨_, withInit_of_init h _⟩
  · exact ⟨_, rfl⟩

/-- AWAIT_CLICK completes: it is accepted, or the block is busy (R42, R96). -/
theorem execAwaitClick_completes {s : State} (h : s.initDone = true) : ∃ t, execAwaitClick s = .next t := by
  unfold execAwaitClick
  split
  · exact ⟨_, withInit_of_init h _⟩
  · exact ⟨_, rfl⟩

/-- SEQ_IDLE completes, whatever stands on the command port (R42, R53). -/
theorem execSeqIdle_completes {s : State} (h : s.initDone = true) : ∃ t, execSeqIdle s = .next t := by
  unfold execSeqIdle
  split
  · exact execReadEvent_completes h
  · split
    · exact execAwaitClick_completes h
    · split
      · exact ⟨_, rfl⟩
      · exact ⟨_, rfl⟩

/-- A stage on CUR completes, with a packet there or without (R65, R90). -/
theorem withCur_completes (f : Packet → State → State) (s : State) : ∃ t, withCur f s = .next t := by
  cases hcur : s.cur with
  | none => exact ⟨s, (withCur_next f).2 (.inl ⟨hcur, rfl⟩)⟩
  | some p => exact ⟨f p s, (withCur_next f).2 (.inr ⟨p, hcur, rfl⟩)⟩

/-- Under the launch premise every operation answers a next state (R29, R110). -/
theorem exec_completes (i : Instr) {s : State} (h : s.initDone = true) : ∃ t, exec i s = .next t := by
  cases i with
  | cmdNone | cmdRsvd | pack | pktDup | evStart | evMove | evEnd | evNone | evwNone | evwStart | evwMove | evwEnd
  | seqDone => exact ⟨_, rfl⟩
  | busRegsel | busRead7 | pollFrame | seqDrain1 | seqAwaitStart | seqAwaitEnd | seqDrain2 =>
    exact ⟨_, withInit_of_init h _⟩
  | dupFilter | decode => exact withCur_completes _ s
  | readEvent => exact execReadEvent_completes h
  | awaitClick => exact execAwaitClick_completes h
  | seqIdle => exact execSeqIdle_completes h

/-- No operation writes the launch premise (R127, R128). -/
theorem exec_initDone {i : Instr} {s t : State} (h : exec i s = .next t) : t.initDone = s.initDone := by
  obtain ⟨-, -, -, -, hinit, -⟩ := registerWriters i s t h
  exact hinit

/-- Settles O52: a platform event takes the whole step and never clears the premise; without one the step is an operation,
which completes and leaves the premise. -/
theorem stepCompletesAfterInit : Obligations.StepCompletesAfterInit := by
  intro s hinit
  cases hp : s.sample.platform with
  | blockReset => exact ⟨_, step_of_blockReset hp, hinit⟩
  | controllerInit => exact ⟨s.controllerInit.advance, by simp only [step, hp], rfl⟩
  | quiet =>
    have htaken : s.takeResponse.initDone = true := hinit
    obtain ⟨u, hu⟩ := exec_completes s.seq.instr htaken
    refine ⟨u.advance, ?_, ?_⟩
    · rw [step_of_quiet hp, hu]
      rfl
    · exact (exec_initDone hu).trans htaken

end Sys2Proof.Machine
end

section
/-! SUPPORT. Encodings of the packets (30_encoding.md R45, R47, R49): a packet is made of its fields, the rows of the decision
table are the matches of R49 under its mask, and what each class's packet is classified as. -/

namespace Sys2Proof

/-! A packet and its fields. -/

/-- Different packets have different 56-bit forms (R6). -/
theorem Packet.toPkt_inj {p q : Packet} : p.toPkt = q.toPkt ↔ p = q :=
  (Function.LeftInverse.injective Packet.ofPkt_toPkt).eq_iff

/-- The phase is the 2-bit field `p[3][7:6]` in its place (R47). -/
theorem Packet.phase_eq_field (p : Packet) : p.phase = (p.p3.extractLsb' 6 2).setWidth 8 <<< 6 := by
  simp only [Packet.phase]
  ext i hi
  interval_cases i <;> simp

/-- The points are the 4-bit field `p[2][3:0]` (R47). -/
theorem Packet.points_eq_field (p : Packet) : p.points = (p.p2.extractLsb' 0 4).setWidth 8 := by
  simp only [Packet.points]
  ext i hi
  interval_cases i <;> simp

/-- Comparing the phase in place is comparing its 2-bit field (R47). -/
theorem Packet.phase_eq_iff (p : Packet) (f : BitVec 2) :
    p.phase = f.setWidth 8 <<< 6 ↔ p.p3.extractLsb' 6 2 = f := by
  have hinj : ∀ a b : BitVec 2, a.setWidth 8 <<< 6 = b.setWidth 8 <<< 6 ↔ a = b := by decide
  rw [Packet.phase_eq_field, hinj]

/-- Comparing the masked points is comparing their 4-bit field (R47). -/
theorem Packet.points_eq_iff (p : Packet) (f : BitVec 4) : p.points = f.setWidth 8 ↔ p.p2.extractLsb' 0 4 = f := by
  have hinj : ∀ a b : BitVec 4, a.setWidth 8 = b.setWidth 8 ↔ a = b := by decide
  rw [Packet.points_eq_field, hinj]

/-- A packet is put together from its fields: no bit is lost (R45). -/
theorem Packet.build_fields (p : Packet) :
    Packet.build p.gesture (p.p2.extractLsb' 0 4) (p.p3.extractLsb' 6 2) p.ignored p.x p.y = p := by
  obtain ⟨p0, p1, p2, p3, p4, p5, p6⟩ := p
  simp only [Packet.build, Packet.gesture, Packet.ignored, Packet.x, Packet.y, Packet.mk.injEq, true_and]
  refine ⟨?_, ?_, ?_, ?_, ?_⟩ <;>
  · ext i hi
    interval_cases i <;> simp

/-- Low nibble above a byte, as a number (R47). -/
theorem coord_toNat (high low : Byte) :
    (((high &&& 0x0F#8).setWidth 12 <<< 8) ||| low.setWidth 12 : Coord).toNat = (high.toNat % 16) * 256 + low.toNat := by
  have hnibble : (high &&& 0x0F#8).toNat = high.toNat % 16 := Nat.and_two_pow_sub_one_eq_mod _ 4
  have hhi : ((high &&& 0x0F#8).setWidth 12 <<< 8).toNat = (high.toNat % 16) <<< 8 := by
    rw [BitVec.toNat_shiftLeft, BitVec.toNat_setWidth, hnibble]
    omega
  have hlo : (low.setWidth 12).toNat = low.toNat := BitVec.toNat_setWidth_of_le (by decide)
  rw [BitVec.toNat_or, hhi, hlo, ← Nat.shiftLeft_add_eq_or_of_lt low.isLt, Nat.shiftLeft_eq]

/-! The rows of the decision table as matches of R49. -/

/-- What the mask of the classes 2 to 4 leaves of a packet is itself the form of a packet. -/
theorem Packet.mask_eq_toPkt (p : Packet) :
    p.toPkt &&& 0x00FF0FC0000000#56 = (Packet.mk 0 p.gesture p.points p.phase 0 0 0).toPkt := by
  rw [Packet.toPkt_and_mask]
  simp [Packet.toPkt]

/-- A match of gesture, points and phase is a match of the masked packet (R49). -/
theorem Packet.mask_eq_iff (p : Packet) (gesture points phase : Byte) :
    p.toPkt &&& 0x00FF0FC0000000#56 = (Packet.mk 0 gesture points phase 0 0 0).toPkt ↔
      p.gesture = gesture ∧ p.points = points ∧ p.phase = phase := by
  rw [Packet.mask_eq_toPkt, Packet.toPkt_inj]
  simp

/-- Class 2 of R49 is the Start row. -/
theorem Packet.startRow_iff_mask (p : Packet) :
    p.startRow = true ↔ p.toPkt &&& 0x00FF0FC0000000#56 = 0x00000100000000#56 := by
  rw [show 0x00000100000000#56 = (Packet.mk 0 0 1 0 0 0 0).toPkt by decide, Packet.mask_eq_iff]
  simp [Packet.startRow, Config.noGesture, Config.phasePressDown, and_assoc]

/-- Class 3 of R49 is the Move row. -/
theorem Packet.moveRow_iff_mask (p : Packet) :
    p.moveRow = true ↔ p.toPkt &&& 0x00FF0FC0000000#56 = 0x00000180000000#56 := by
  rw [show 0x00000180000000#56 = (Packet.mk 0 0 1 0x80 0 0 0).toPkt by decide, Packet.mask_eq_iff]
  simp [Packet.moveRow, Config.noGesture, Config.phaseContact, and_assoc]

/-- Class 4 of R49 is the End row. -/
theorem Packet.endRow_iff_mask (p : Packet) :
    p.endRow = true ↔ p.toPkt &&& 0x00FF0FC0000000#56 = 0x00000040000000#56 := by
  rw [show 0x00000040000000#56 = (Packet.mk 0 0 0 0x40 0 0 0).toPkt by decide, Packet.mask_eq_iff]
  simp [Packet.endRow, Config.noGesture, Config.phaseLiftUp, and_assoc]

/-! A packet of a row is the packet of its class. -/

/-- A packet with the fields of a class is that class's packet. -/
theorem Packet.build_of_fields {p : Packet} {gesture : Byte} {points : BitVec 4} {phase : BitVec 2}
    (hg : p.gesture = gesture) (hpts : p.points = points.setWidth 8) (hph : p.phase = phase.setWidth 8 <<< 6) :
    Packet.build gesture points phase p.ignored p.x p.y = p := by
  rw [← hg, ← (p.points_eq_iff points).1 hpts, ← (p.phase_eq_iff phase).1 hph, Packet.build_fields]

/-- A packet of the Start row is the Start packet of its ignored bits and coordinates. -/
theorem startPacket_of_startRow {p : Packet} (h : p.startRow = true) : startPacket p.ignored p.x p.y = p := by
  simp only [Packet.startRow, Bool.and_eq_true, beq_iff_eq] at h
  obtain ⟨⟨hg, hpts⟩, hph⟩ := h
  exact Packet.build_of_fields hg hpts hph

/-- A packet of the Move row is the Move packet of its ignored bits and coordinates. -/
theorem movePacket_of_moveRow {p : Packet} (h : p.moveRow = true) : movePacket p.ignored p.x p.y = p := by
  simp only [Packet.moveRow, Bool.and_eq_true, beq_iff_eq] at h
  obtain ⟨⟨hg, hpts⟩, hph⟩ := h
  exact Packet.build_of_fields hg hpts hph

/-- A packet of the End row is the End packet of its ignored bits and coordinates. -/
theorem endPacket_of_endRow {p : Packet} (h : p.endRow = true) : endPacket p.ignored p.x p.y = p := by
  simp only [Packet.endRow, Bool.and_eq_true, beq_iff_eq] at h
  obtain ⟨⟨hg, hpts⟩, hph⟩ := h
  exact Packet.build_of_fields hg hpts hph

section rows

variable (g : IgnoredBits) (x y : Coord)

/-- A Start packet is of the Start row. -/
@[simp] theorem startPacket_startRow : (startPacket g x y).startRow = true := by
  simp [startPacket, Packet.startRow, Config.noGesture, Config.phasePressDown]

/-- A Move packet is of the Move row and of no row before it. -/
@[simp] theorem movePacket_rows : (movePacket g x y).startRow = false ∧ (movePacket g x y).moveRow = true := by
  simp [movePacket, Packet.startRow, Packet.moveRow, Config.noGesture, Config.phasePressDown, Config.phaseContact]

/-- An End packet is of the End row and of no row before it. -/
@[simp] theorem endPacket_rows :
    (endPacket g x y).startRow = false ∧ (endPacket g x y).moveRow = false ∧ (endPacket g x y).endRow = true := by
  simp [endPacket, Packet.startRow, Packet.moveRow, Packet.endRow, Config.noGesture, Config.phasePressDown,
    Config.phaseContact, Config.phaseLiftUp]

/-- The packet with count "no touch yet" is of no row (R82). -/
@[simp] theorem quietPacket_rows :
    (quietPacket g).startRow = false ∧ (quietPacket g).moveRow = false ∧ (quietPacket g).endRow = false := by
  simp [quietPacket, Packet.startRow, Packet.moveRow, Packet.endRow, Config.countInvalid]

/-! The operands of a class's packet are those it was put together from. -/

@[simp] theorem startPacket_ignored : (startPacket g x y).ignored = g := Packet.build_ignored ..
@[simp] theorem startPacket_x : (startPacket g x y).x = x := Packet.build_x ..
@[simp] theorem startPacket_y : (startPacket g x y).y = y := Packet.build_y ..
@[simp] theorem movePacket_ignored : (movePacket g x y).ignored = g := Packet.build_ignored ..
@[simp] theorem movePacket_x : (movePacket g x y).x = x := Packet.build_x ..
@[simp] theorem movePacket_y : (movePacket g x y).y = y := Packet.build_y ..
@[simp] theorem endPacket_ignored : (endPacket g x y).ignored = g := Packet.build_ignored ..
@[simp] theorem endPacket_x : (endPacket g x y).x = x := Packet.build_x ..
@[simp] theorem endPacket_y : (endPacket g x y).y = y := Packet.build_y ..

/-! The decoder's event for each class's packet (R79 to R82). -/

@[simp] theorem startPacket_event : (startPacket g x y).event = .startAt x y := by
  simp [Packet.event]

@[simp] theorem movePacket_event : (movePacket g x y).event = .moveAt x y := by
  simp [Packet.event]

@[simp] theorem endPacket_event : (endPacket g x y).event = .endAt x y := by
  simp [Packet.event]

@[simp] theorem quietPacket_event : (quietPacket g).event = .noEvent := by
  simp [Packet.event]

end rows

/-! The classification, one equation per class. -/

section classify

variable {prev p : Packet}

/-- Class 1 (R49). -/
@[simp] theorem classify_self (prev : Packet) : classify prev prev = .pktDup := by
  simp [classify]

/-- Class 2 (R49). -/
theorem classify_startRow (hp : p ≠ prev) (h : p.startRow = true) :
    classify prev p = .evStart p.ignored p.x p.y := by
  simp [classify, hp, h]

/-- Class 3 (R49). -/
theorem classify_moveRow (hp : p ≠ prev) (hs : p.startRow = false) (h : p.moveRow = true) :
    classify prev p = .evMove p.ignored p.x p.y := by
  simp [classify, hp, hs, h]

/-- Class 4 (R49). -/
theorem classify_endRow (hp : p ≠ prev) (hs : p.startRow = false) (hm : p.moveRow = false) (h : p.endRow = true) :
    classify prev p = .evEnd p.ignored p.x p.y := by
  simp [classify, hp, hs, hm, h]

/-- Class 5 (R49). -/
theorem classify_noRow (hp : p ≠ prev) (h : noRow p = true) : classify prev p = .evNone p := by
  simp only [noRow, Bool.and_eq_true, Bool.not_eq_true'] at h
  obtain ⟨⟨hs, hm⟩, he⟩ := h
  simp [classify, hp, hs, hm, he]

/-- Which class takes a packet: PREV itself, a row, or none. -/
theorem classify_cases (prev p : Packet) :
    p = prev ∨ p ≠ prev ∧ (p.startRow = true ∨ p.startRow = false ∧ p.moveRow = true ∨
      p.startRow = false ∧ p.moveRow = false ∧ p.endRow = true ∨ noRow p = true) := by
  by_cases hp : p = prev
  · exact .inl hp
  · refine .inr ⟨hp, ?_⟩
    cases hs : p.startRow <;> cases hm : p.moveRow <;> cases he : p.endRow <;> simp [noRow, hs, hm, he]

end classify

end Sys2Proof
end

section
/-! SUPPORT. Encodings of the event words, and decoder against encoder over all formats (30_encoding.md R40 to R57, 10_state.md
R14). -/

namespace Sys2Proof

open Machine

/-! Event words: the tag field beside the payload (R46). -/

section words

variable (x y : Coord)

/-- The payload leaves the tag field free (R46). -/
@[simp] theorem tagField_payload : tagField (payload x y) = 0#32 := by
  simp only [tagField, payload, Config.xShift, Config.yShift]
  ext i hi
  interval_cases i <;> simp

@[simp] theorem tagField_or (v w : EventWord) : tagField (v ||| w) = tagField v ||| tagField w := or_and_mask ..

@[simp] theorem xOf_payload : xOf (payload x y) = x := by
  simp only [xOf, payload, Config.xShift, Config.yShift]
  ext i hi
  interval_cases i <;> simp

@[simp] theorem xOf_or (v w : EventWord) : xOf (v ||| w) = xOf v ||| xOf w := by
  simp [xOf, BitVec.ushiftRight_or_distrib]

@[simp] theorem yOf_payload : yOf (payload x y) = y := by
  simp only [yOf, payload, Config.xShift, Config.yShift]
  ext i hi
  interval_cases i <;> simp

@[simp] theorem yOf_or (v w : EventWord) : yOf (v ||| w) = yOf v ||| yOf w := by
  simp [yOf, BitVec.ushiftRight_or_distrib]

/-- A word is its tag field above the payload of its coordinates: no bit is lost (R46). -/
theorem tagField_or_payload (w : EventWord) : tagField w ||| payload (xOf w) (yOf w) = w := by
  simp only [tagField, payload, xOf, yOf, Config.xShift, Config.yShift]
  ext i hi
  interval_cases i <;> simp

@[simp] theorem startAt_word_fields :
    tagField (NormalizedEvent.word (.startAt x y)) = Config.tagStart ∧
      xOf (NormalizedEvent.word (.startAt x y)) = x ∧ yOf (NormalizedEvent.word (.startAt x y)) = y := by
  simp [NormalizedEvent.word, Config.tagStart, show tagField 0x01000000#32 = 0x01000000#32 by decide,
    show xOf 0x01000000#32 = 0#12 by decide, show yOf 0x01000000#32 = 0#12 by decide]

@[simp] theorem moveAt_word_fields :
    tagField (NormalizedEvent.word (.moveAt x y)) = Config.tagMove ∧
      xOf (NormalizedEvent.word (.moveAt x y)) = x ∧ yOf (NormalizedEvent.word (.moveAt x y)) = y := by
  simp [NormalizedEvent.word, Config.tagMove, show tagField 0x02000000#32 = 0x02000000#32 by decide,
    show xOf 0x02000000#32 = 0#12 by decide, show yOf 0x02000000#32 = 0#12 by decide]

@[simp] theorem endAt_word_fields :
    tagField (NormalizedEvent.word (.endAt x y)) = Config.tagEnd ∧
      xOf (NormalizedEvent.word (.endAt x y)) = x ∧ yOf (NormalizedEvent.word (.endAt x y)) = y := by
  simp [NormalizedEvent.word, Config.tagEnd, show tagField 0x04000000#32 = 0x04000000#32 by decide,
    show xOf 0x04000000#32 = 0#12 by decide, show yOf 0x04000000#32 = 0#12 by decide]

end words

/-- A word with a tag bit is not 0. -/
theorem ne_zero_of_tagField {w : EventWord} (h : tagField w ≠ 0#32) : w ≠ 0#32 := by
  rintro rfl
  exact h (by decide)

/-- Only the word of None is 0 (R52). -/
theorem NormalizedEvent.word_ne_zero {e : NormalizedEvent} (h : e ≠ .noEvent) : e.word ≠ 0#32 := by
  cases e with
  | noEvent => exact absurd rfl h
  | startAt x y => exact ne_zero_of_tagField (by simp [Config.tagStart])
  | moveAt x y => exact ne_zero_of_tagField (by simp [Config.tagMove])
  | endAt x y => exact ne_zero_of_tagField (by simp [Config.tagEnd])

/-! Event words: decoder and encoder. -/

/-- The event-word operation of an event: the shape of its word (R46). -/
def NormalizedEvent.shape : NormalizedEvent → Instr
  | .noEvent => .evwNone
  | .startAt x y => .evwStart x y
  | .moveAt x y => .evwMove x y
  | .endAt x y => .evwEnd x y

/-- The code of a shape is the word of its event. -/
theorem encode_shape (prev : Packet) (e : NormalizedEvent) : encode prev e.shape = .evw e.word := by
  cases e with
  | noEvent => rfl
  | startAt x y | moveAt x y | endAt x y =>
    simp [encode, NormalizedEvent.shape, NormalizedEvent.word, payload, Config.tagStart, Config.tagMove, Config.tagEnd,
      Config.xShift, Config.yShift, BitVec.or_assoc]

/-- A shape is well formed whatever PREV holds. -/
theorem wellFormed_shape (prev : Packet) (e : NormalizedEvent) : e.shape.wellFormed prev = true := by
  cases e <;> rfl

/-- The word of an event decodes to its shape (R46). -/
theorem decodeEventWord_word (e : NormalizedEvent) : decodeEventWord e.word = .ok e.shape := by
  cases e with
  | noEvent => rfl
  | startAt x y | moveAt x y | endAt x y =>
    simp [decodeEventWord, NormalizedEvent.word_ne_zero, NormalizedEvent.shape, Config.tagStart, Config.tagMove,
      Config.tagEnd]

/-- The round trip of an event word. -/
theorem decode_encode_shape (prev : Packet) (e : NormalizedEvent) :
    decode prev (encode prev e.shape) = .ok e.shape := by
  rw [encode_shape]
  exact decodeEventWord_word e

/-- A word with the tag field of an event is that event's word. -/
theorem eq_word_of_tagField {w tag : EventWord} (h : tagField w = tag) : w = tag ||| payload (xOf w) (yOf w) := by
  rw [← h, tagField_or_payload]

/-- A word that decodes is the word of an event, and decodes to its shape (R52). -/
theorem eq_word_of_decodeEventWord {w : EventWord} {i : Instr} (h : decodeEventWord w = .ok i) :
    ∃ e : NormalizedEvent, w = e.word ∧ i = e.shape := by
  unfold decodeEventWord at h
  split at h
  case isTrue hzero => exact ⟨.noEvent, hzero, (Except.ok.inj h).symm⟩
  split at h
  case isTrue htag => exact ⟨.startAt (xOf w) (yOf w), eq_word_of_tagField htag, (Except.ok.inj h).symm⟩
  split at h
  case isTrue htag => exact ⟨.moveAt (xOf w) (yOf w), eq_word_of_tagField htag, (Except.ok.inj h).symm⟩
  split at h
  case isTrue htag => exact ⟨.endAt (xOf w) (yOf w), eq_word_of_tagField htag, (Except.ok.inj h).symm⟩
  cases h

/-! Command, transfer, packet and SEQ codes: the code of what a code decodes to. -/

/-- A command code is the code of its operation (R41). -/
theorem encode_decodeCmd (prev : Packet) (c : BitVec 2) :
    encode prev (decodeCmd c) = .cmd c ∧ (decodeCmd c).wellFormed prev = true := by
  have hcodes : ∀ c : BitVec 2, c = 0b00#2 ∨ c = 0b01#2 ∨ c = 0b10#2 ∨ c = 0b11#2 := by decide
  rcases hcodes c with rfl | rfl | rfl | rfl <;> exact ⟨rfl, rfl⟩

/-- A SEQ code that decodes is the code of a state, and decodes to the operation that state selects (R14, R57). -/
theorem eq_code_of_decodeSeq {c : BitVec 3} {i : Instr} (h : decodeSeq c = .ok i) :
    ∃ q : Seq, c = q.code ∧ i = q.instr := by
  unfold decodeSeq at h
  split at h
  case isTrue hc => exact ⟨.idle, hc, (Except.ok.inj h).symm⟩
  split at h
  case isTrue hc => exact ⟨.drain1, hc, (Except.ok.inj h).symm⟩
  split at h
  case isTrue hc => exact ⟨.awaitStart, hc, (Except.ok.inj h).symm⟩
  split at h
  case isTrue hc => exact ⟨.awaitEnd, hc, (Except.ok.inj h).symm⟩
  split at h
  case isTrue hc => exact ⟨.drain2, hc, (Except.ok.inj h).symm⟩
  split at h
  case isTrue hc => exact ⟨.done, hc, (Except.ok.inj h).symm⟩
  cases h

/-- The operation that SEQ selects has the code of SEQ (R57). -/
theorem encode_seq_instr (prev : Packet) (q : Seq) :
    encode prev q.instr = .seq q.code ∧ q.instr.wellFormed prev = true := by
  cases q <;> exact ⟨rfl, rfl⟩

/-- A packet is the code of its class, and its class is well formed: the tests before its own have not taken it (R49). -/
theorem encode_classify (prev p : Packet) :
    encode prev (classify prev p) = .pkt p.toPkt ∧ (classify prev p).wellFormed prev = true := by
  obtain rfl | ⟨hp, hs | ⟨hs, hm⟩ | ⟨hs, hm, he⟩ | hnone⟩ := classify_cases prev p
  · rw [classify_self]
    exact ⟨rfl, rfl⟩
  · rw [classify_startRow hp hs]
    simp [encode, Instr.wellFormed, notDuplicate, startPacket_of_startRow hs, hp]
  · rw [classify_moveRow hp hs hm]
    simp [encode, Instr.wellFormed, notDuplicate, movePacket_of_moveRow hm, hp]
  · rw [classify_endRow hp hs hm he]
    simp [encode, Instr.wellFormed, notDuplicate, endPacket_of_endRow he, hp]
  · rw [classify_noRow hp hnone]
    simp [encode, Instr.wellFormed, notDuplicate, hnone, hp]

/-! The statements about the encodings. -/

/-- Settles O2: the classes are tested in order, so a well-formed class is the one that takes its own packet; the fields of
a packet and of a word come back out of their places. -/
theorem decodeOfEncode : Obligations.DecodeOfEncode := by
  intro prev i hwf
  cases i with
  | cmdNone | readEvent | awaitClick | cmdRsvd | busRegsel | busRead7 | pollFrame | dupFilter | decode | pack
  | seqIdle | seqDrain1 | seqAwaitStart | seqAwaitEnd | seqDrain2 | seqDone => rfl
  | pktDup => simp [encode, decode]
  | evStart g x y =>
    have hp : startPacket g x y ≠ prev := by simpa [Instr.wellFormed, notDuplicate] using hwf
    simp [encode, decode, classify_startRow hp]
  | evMove g x y =>
    have hp : movePacket g x y ≠ prev := by simpa [Instr.wellFormed, notDuplicate] using hwf
    simp [encode, decode, classify_moveRow hp]
  | evEnd g x y =>
    have hp : endPacket g x y ≠ prev := by simpa [Instr.wellFormed, notDuplicate] using hwf
    simp [encode, decode, classify_endRow hp]
  | evNone p =>
    obtain ⟨hp, hnone⟩ : p ≠ prev ∧ noRow p = true := by simpa [Instr.wellFormed, notDuplicate] using hwf
    simp [encode, decode, classify_noRow hp hnone]
  | evwNone => exact decode_encode_shape prev .noEvent
  | evwStart x y => exact decode_encode_shape prev (.startAt x y)
  | evwMove x y => exact decode_encode_shape prev (.moveAt x y)
  | evwEnd x y => exact decode_encode_shape prev (.endAt x y)

/-- Settles O3, format by format. -/
theorem encodeOfDecode : Obligations.EncodeOfDecode := by
  intro prev c i h
  cases c with
  | cmd c =>
    obtain rfl := Except.ok.inj h
    exact encode_decodeCmd prev c
  | busWrite data =>
    simp only [decode] at h
    split at h
    case isTrue hdata =>
      obtain rfl := Except.ok.inj h
      exact ⟨congrArg Code.busWrite hdata.symm, rfl⟩
    case isFalse => cases h
  | busRead n =>
    simp only [decode] at h
    split at h
    case isTrue hlength =>
      obtain rfl := Except.ok.inj h
      exact ⟨congrArg Code.busRead hlength.symm, rfl⟩
    case isFalse => cases h
  | stage k =>
    obtain rfl := Except.ok.inj h
    cases k <;> exact ⟨rfl, rfl⟩
  | pkt w =>
    obtain rfl := Except.ok.inj h
    simpa using encode_classify prev (Packet.ofPkt w)
  | evw w =>
    obtain ⟨e, rfl, rfl⟩ := eq_word_of_decodeEventWord h
    exact ⟨encode_shape prev e, wellFormed_shape prev e⟩
  | seq c =>
    obtain ⟨q, rfl, rfl⟩ := eq_code_of_decodeSeq h
    exact encode_seq_instr prev q

/-- Settles O4: the masks of R49 are the rows of the decision table, and the matches exclude one another. -/
theorem packetClassesByMask : Obligations.PacketClassesByMask := by
  intro prev w
  obtain ⟨p, rfl⟩ : ∃ p : Packet, w = p.toPkt := ⟨Packet.ofPkt w, by simp⟩
  have hstart := p.startRow_iff_mask
  have hmove := p.moveRow_iff_mask
  have hend := p.endRow_iff_mask
  refine ⟨classify prev p, by simp [decode], ?_, ?_, ?_, ?_, ?_⟩
  · intro h
    rw [Packet.toPkt_inj.1 h, classify_self]
  · intro hp hmask
    have hs : p.startRow = true := hstart.2 hmask
    exact ⟨_, _, _, classify_startRow (mt Packet.toPkt_inj.2 hp) hs⟩
  · intro hp hmask
    have hs : p.startRow = false := by simp [← Bool.not_eq_true, hstart, hmask]
    have hm : p.moveRow = true := hmove.2 hmask
    exact ⟨_, _, _, classify_moveRow (mt Packet.toPkt_inj.2 hp) hs hm⟩
  · intro hp hmask
    have hs : p.startRow = false := by simp [← Bool.not_eq_true, hstart, hmask]
    have hm : p.moveRow = false := by simp [← Bool.not_eq_true, hmove, hmask]
    have he : p.endRow = true := hend.2 hmask
    exact ⟨_, _, _, classify_endRow (mt Packet.toPkt_inj.2 hp) hs hm he⟩
  · intro hp hs hm he
    have hnone : noRow p = true := by simp [noRow, ← Bool.not_eq_true, hstart, hmove, hend, hs, hm, he]
    rw [Packet.ofPkt_toPkt, classify_noRow (mt Packet.toPkt_inj.2 hp) hnone]

/-- Settles O5: the words that decode are those of events, in both directions; the two SEQ codes by evaluation. -/
theorem onlyProducedCodesDecode : Obligations.OnlyProducedCodesDecode := by
  refine ⟨fun prev w => ⟨?_, ?_⟩, fun prev => ⟨rfl, rfl⟩⟩
  · rintro ⟨i, h⟩
    obtain ⟨e, hw, -⟩ := eq_word_of_decodeEventWord h
    exact ⟨e, hw⟩
  · rintro ⟨e, rfl⟩
    exact ⟨e.shape, decodeEventWord_word e⟩

/-- The bits 31:27 and the tag bits 26:24 of a word are those of its tag field (R46). -/
theorem extractLsb'_tagField (w : EventWord) :
    (tagField w).extractLsb' 27 5 = w.extractLsb' 27 5 ∧ (tagField w).extractLsb' 24 3 = w.extractLsb' 24 3 := by
  simp only [tagField]
  refine ⟨?_, ?_⟩ <;>
  · ext i hi
    interval_cases i <;> simp

/-- The bits 26:24 of an event's word, the tags of End, Move and Start (R46). -/
def NormalizedEvent.tagBits : NormalizedEvent → BitVec 3
  | .noEvent => 0b000#3
  | .startAt _ _ => 0b001#3
  | .moveAt _ _ => 0b010#3
  | .endAt _ _ => 0b100#3

/-- The bits above the payload of an event's word (R52). -/
theorem NormalizedEvent.word_tagBits (e : NormalizedEvent) :
    e.word.extractLsb' 27 5 = 0#5 ∧ e.word.extractLsb' 24 3 = e.tagBits := by
  obtain ⟨hzero, htag⟩ := extractLsb'_tagField e.word
  rw [← hzero, ← htag]
  cases e with
  | noEvent => decide
  | startAt x y => simp [tagBits, Config.tagStart]
  | moveAt x y => simp [tagBits, Config.tagMove]
  | endAt x y => simp [tagBits, Config.tagEnd]

/-- Only None has no tag bit (R52). -/
theorem NormalizedEvent.eq_noEvent_of_tagBits {e : NormalizedEvent} (h : e.tagBits = 0b000#3) : e = .noEvent := by
  cases e with
  | noEvent => rfl
  | startAt x y | moveAt x y | endAt x y => simp [tagBits] at h

/-- Settles O6: the tag bits of each of the four kinds of event. -/
theorem eventWordBits : Obligations.EventWordBits := by
  intro e
  obtain ⟨hzero, htag⟩ := e.word_tagBits
  rw [htag]
  refine ⟨hzero, ?_, ?_, NormalizedEvent.word_ne_zero⟩
  · cases e <;> simp [NormalizedEvent.tagBits]
  · intro h
    rw [NormalizedEvent.eq_noEvent_of_tagBits h]
    rfl

/-- Settles O7: the masked phase is the 2-bit field in its place, and a coordinate's nibble and byte do not overlap. -/
theorem decoderOperands : Obligations.DecoderOperands := by
  intro p
  exact ⟨rfl, rfl, rfl, p.phase_eq_iff 0b00#2, p.phase_eq_iff 0b10#2, p.phase_eq_iff 0b01#2, p.phase_eq_iff 0b11#2,
    coord_toNat p.p3 p.p4, coord_toNat p.p5 p.p6⟩

/-- Settles O1: the decoder is evaluated on each written word. -/
theorem writtenWordsDecode : Obligations.WrittenWordsDecode := by
  unfold Obligations.WrittenWordsDecode
  decide

end Sys2Proof
end

section
/-! SUPPORT. Commands (30_encoding.md R41 to R43, R53): what SEQ_IDLE and a busy block make of the command port, that every
accepted command gets one response, and that a placed word is what the next step runs. -/

namespace Sys2Proof.Machine

/-! The command port. -/

/-- SEQ_IDLE runs what the code on the port decodes to (R42, R102). -/
theorem execSeqIdle_eq (s : State) : execSeqIdle s = exec (decodeCmd s.sample.cmd) s := by
  unfold execSeqIdle decodeCmd
  split
  case isTrue => rfl
  split
  case isTrue => rfl
  split <;> rfl

/-- Settles O10: SEQ_IDLE is the port's operation, and as an operation it completes and keeps premise and inputs. -/
theorem idleRunsPortCommand : Obligations.IdleRunsPortCommand := by
  intro s i hi hinit
  obtain rfl : decodeCmd s.sample.cmd = i := Except.ok.inj hi
  obtain ⟨t, ht⟩ := exec_completes .seqIdle hinit
  obtain ⟨-, -, -, -, hinit', hpins⟩ := registerWriters _ _ _ ht
  exact ⟨execSeqIdle_eq s, t, ht, hinit'.trans hinit, hpins⟩

/-- An idle block that is shown 0b00 or 0b11 does nothing (R53). -/
theorem execSeqIdle_noCommand {s : State} (h : s.sample.cmd = 0b00#2 ∨ s.sample.cmd = 0b11#2) :
    execSeqIdle s = .next s := by
  rw [execSeqIdle_eq]
  rcases h with h | h
  · rw [h]
    rfl
  · rw [h]
    rfl

/-- Settles O11: both codes select an operation that answers the state as it is. -/
theorem noCommandChangesNothing : Obligations.NoCommandChangesNothing := by
  refine ⟨fun s => ⟨rfl, rfl⟩, fun s hidle hcmd hquiet => ⟨execSeqIdle_noCommand hcmd, ?_⟩⟩
  have hexec : exec s.seq.instr s.takeResponse = .next s.takeResponse := by
    rw [hidle]
    exact execSeqIdle_noCommand (s := s.takeResponse) hcmd
  rw [step_of_quiet hquiet, hexec]
  rfl

/-! A busy block does not look at its inputs. -/

/-- The state with other inputs to come. -/
def State.withPins (l : List PortSample) (s : State) : State := { s with pins := l }

/-- A poll does not look at the inputs (R94). -/
theorem poll_withPins (l : List PortSample) (s : State) : poll (s.withPins l) = (poll s).withPins l := by
  rcases poll_cases s with hw | ⟨hw, hr⟩ | ⟨p, hw, hr, hp | ⟨hp, he⟩ | ⟨hp, he⟩⟩
  · rw [poll_writeFail hw, poll_writeFail (s := s.withPins l) hw]
    rfl
  · rw [poll_readFail hw hr, poll_readFail (s := s.withPins l) hw hr]
    rfl
  · rw [poll_duplicate hw hr hp, poll_duplicate (s := s.withPins l) hw hr hp]
    rfl
  · rw [poll_miss hw hr hp he, poll_miss (s := s.withPins l) hw hr hp he]
    rfl
  · rw [poll_event hw hr hp he, poll_event (s := s.withPins l) hw hr hp he]
    rfl

@[simp] theorem pollWord_withPins (l : List PortSample) (s : State) : pollWord (s.withPins l) = pollWord s := by
  rw [pollWord, poll_withPins]
  rfl

@[simp] theorem afterPoll_withPins (l : List PortSample) (s : State) :
    afterPoll (s.withPins l) = (afterPoll s).withPins l := by
  rw [afterPoll, poll_withPins]
  rfl

@[simp] theorem drain1Step_withPins (l : List PortSample) (s : State) :
    drain1Step (s.withPins l) = (drain1Step s).withPins l := by
  rw [drain1Step, afterPoll_withPins, pollWord_withPins]
  rfl

@[simp] theorem awaitStartStep_withPins (l : List PortSample) (s : State) :
    awaitStartStep (s.withPins l) = (awaitStartStep s).withPins l := by
  rw [awaitStartStep, afterPoll_withPins, pollWord_withPins]
  rfl

@[simp] theorem awaitEndStep_withPins (l : List PortSample) (s : State) :
    awaitEndStep (s.withPins l) = (awaitEndStep s).withPins l := by
  simp only [awaitEndStep, afterPoll_withPins, pollWord_withPins]
  split <;> rfl

@[simp] theorem drain2Step_withPins (l : List PortSample) (s : State) :
    drain2Step (s.withPins l) = (drain2Step s).withPins l := by
  rw [drain2Step, afterPoll_withPins, pollWord_withPins]
  rfl

/-- An operation under the launch premise, with other inputs to come. -/
theorem withInit_withPins {l : List PortSample} {s t u : State} (h : u = t.withPins l) :
    withInit (s.withPins l) u = mapNext (State.withPins l) (withInit s t) := by
  subst h
  cases hinit : s.initDone <;> simp [withInit, State.withPins, hinit, mapNext]

/-- The operation of a busy block neither looks at the inputs nor uses them up (R42). -/
theorem exec_withPins_of_busy {q : Seq} (h : q ≠ .idle) (l : List PortSample) (s : State) :
    exec q.instr (s.withPins l) = mapNext (State.withPins l) (exec q.instr s) := by
  cases q with
  | idle => exact absurd rfl h
  | drain1 => exact withInit_withPins (drain1Step_withPins l s)
  | awaitStart => exact withInit_withPins (awaitStartStep_withPins l s)
  | awaitEnd => exact withInit_withPins (awaitEndStep_withPins l s)
  | drain2 => exact withInit_withPins (drain2Step_withPins l s)
  | done => rfl

/-- A quiet step of a busy block is its operation, with the rest of the inputs to come. -/
theorem step_of_busy {s : State} (hbusy : s.seq ≠ .idle) (c : BitVec 2) (rest : List PortSample) :
    step (s.withPins (⟨c, .quiet⟩ :: rest)) =
      mapNext (State.withPins rest) (exec s.seq.instr s.takeResponse) := by
  have hexec := exec_withPins_of_busy hbusy (⟨c, .quiet⟩ :: rest) s.takeResponse
  rw [step_of_quiet (s := s.withPins (⟨c, .quiet⟩ :: rest)) rfl]
  change mapNext State.advance (exec s.seq.instr (s.takeResponse.withPins (⟨c, .quiet⟩ :: rest))) = _
  rw [hexec]
  cases exec s.seq.instr s.takeResponse <;> rfl

/-- Settles O41: a platform event takes the whole step, and the operation of a busy block does not look at the inputs. -/
theorem busyIgnoresCommand : Obligations.BusyIgnoresCommand := by
  intro s c d e rest hbusy
  cases e with
  | blockReset | controllerInit => rfl
  | quiet => exact (step_of_busy hbusy c rest).trans (step_of_busy hbusy d rest).symm

/-! Commands and responses in a history. -/

/-- The accepted commands of two histories, one after the other. -/
@[simp] theorem accepted_append (h k : List HistoryEvent) : accepted (h ++ k) = accepted h ++ accepted k := by
  induction h with
  | nil => rfl
  | cons e h ih => cases e <;> simp [accepted, ih]

/-- The responses of two histories, one after the other. -/
@[simp] theorem responses_append (h k : List HistoryEvent) : responses (h ++ k) = responses h ++ responses k := by
  induction h with
  | nil => rfl
  | cons e h ih => cases e <;> simp [responses, ih]

/-- A poll accepts no command and gives no response (R24, R94). -/
theorem poll_accepted_responses (s : State) :
    accepted (poll s).history = accepted s.history ∧ responses (poll s).history = responses s.history := by
  rcases poll_history s with ⟨c, h⟩ | ⟨a, c, h⟩
  · simp [h, accepted, responses, regSelectEntry]
  · simp [h, accepted, responses, regSelectEntry, packetReadEntry]

/-- Commands and responses of a busy block, counted: one command is in progress. -/
theorem commandsAnswered_of_busy {s : State} (h : s.seq ≠ .idle) :
    CommandsAnswered s ↔ (accepted s.history).length = (responses s.history).length + 1 := by
  simp [CommandsAnswered, h]

/-- Commands and responses of an idle block, counted: none is in progress. -/
theorem commandsAnswered_of_idle {s : State} (h : s.seq = .idle) :
    CommandsAnswered s ↔ (accepted s.history).length = (responses s.history).length := by
  simp [CommandsAnswered, h]

/-- A block that stays busy over a poll has still the one command in progress. -/
theorem commandsAnswered_of_poll {s t : State} (hs : CommandsAnswered s) (hbusy : s.seq ≠ .idle)
    (hbusy' : t.seq ≠ .idle) (ht : t.history = (poll s).history) : CommandsAnswered t := by
  obtain ⟨hacc, hresp⟩ := poll_accepted_responses s
  rw [commandsAnswered_of_busy hbusy', ht, hacc, hresp]
  exact (commandsAnswered_of_busy hbusy).1 hs

/-- An accepted READ_EVENT is answered at once (R92). -/
theorem readEvent_commandsAnswered {s : State} (hs : CommandsAnswered s) (hidle : s.seq = .idle) :
    CommandsAnswered (readEvent s) := by
  have hcount := (commandsAnswered_of_idle hidle).1 hs
  obtain ⟨hacc, hresp⟩ := poll_accepted_responses (s.log (.accepted .readEvent))
  rw [commandsAnswered_of_idle (by simp [hidle])]
  simp [hacc, hresp, hcount, accepted, responses]

/-- An accepted AWAIT_CLICK is in progress (R96). -/
theorem acceptAwaitClick_commandsAnswered {s : State} (hs : CommandsAnswered s) (hidle : s.seq = .idle) :
    CommandsAnswered (acceptAwaitClick s) := by
  have hcount := (commandsAnswered_of_idle hidle).1 hs
  rw [commandsAnswered_of_busy (by simp [acceptAwaitClick])]
  simp [hcount, accepted, responses]

/-- DONE answers the command in progress (R101). -/
theorem doneStep_commandsAnswered {s : State} (hs : CommandsAnswered s) (hbusy : s.seq ≠ .idle) :
    CommandsAnswered (doneStep s) := by
  have hcount := (commandsAnswered_of_busy hbusy).1 hs
  rw [commandsAnswered_of_idle rfl]
  simp [hcount, accepted, responses]

/-- SEQ_IDLE keeps the count, whatever stands on the command port. -/
theorem execSeqIdle_commandsAnswered {s t : State} (hs : CommandsAnswered s) (h : execSeqIdle s = .next t) :
    CommandsAnswered t := by
  rcases execSeqIdle_cases h with rfl | ⟨hidle, -, -, rfl⟩ | ⟨hidle, -, -, rfl⟩
  · exact hs
  · exact readEvent_commandsAnswered hs hidle
  · exact acceptAwaitClick_commandsAnswered hs hidle

/-! A polling step leads to no state in which the block is idle (R102). -/

theorem drain1Step_busy (s : State) : (drain1Step s).seq ≠ .idle := by
  simp only [drain1Step]
  split <;> simp

theorem awaitStartStep_busy (s : State) : (awaitStartStep s).seq ≠ .idle := by
  simp only [awaitStartStep]
  split <;> simp

theorem awaitEndStep_busy (s : State) : (awaitEndStep s).seq ≠ .idle := by
  simp only [awaitEndStep]
  split <;> simp

theorem drain2Step_busy (s : State) : (drain2Step s).seq ≠ .idle := by
  simp only [drain2Step]
  split <;> simp

/-- Settles O49: a polling step keeps the command in progress, SEQ_IDLE accepts one and answers it or goes busy, DONE
answers it; a block reset empties the history. -/
theorem stepKeepsCommandsAnswered : Obligations.StepKeepsCommandsAnswered := by
  intro s t hs h
  rcases step_cases h with ⟨-, rfl⟩ | ⟨-, rfl⟩ | ⟨-, u, rfl, hu⟩
  · rfl
  · exact hs
  · have htaken : CommandsAnswered s.takeResponse := hs
    change CommandsAnswered u
    rcases hu with ⟨-, hidle⟩ | ⟨hq, -, rfl⟩ | ⟨hq, -, rfl⟩ | ⟨hq, -, rfl⟩ | ⟨hq, -, rfl⟩ | ⟨hq, rfl⟩
    · exact execSeqIdle_commandsAnswered htaken hidle
    · exact commandsAnswered_of_poll htaken (by simp [hq]) (drain1Step_busy _) (drain1Step_history _)
    · exact commandsAnswered_of_poll htaken (by simp [hq]) (awaitStartStep_busy _) (awaitStartStep_history _)
    · exact commandsAnswered_of_poll htaken (by simp [hq]) (awaitEndStep_busy _) (awaitEndStep_history _)
    · exact commandsAnswered_of_poll htaken (by simp [hq]) (drain2Step_busy _) (drain2Step_history _)
    · exact doneStep_commandsAnswered htaken (by simp [hq])

/-! Placed words. -/

/-- The value of SEQ is the one of its code (R57). -/
@[simp] theorem Seq.ofCode_code (q : Seq) : Seq.ofCode q.code = some q := by
  cases q <;> rfl

/-- With a command placed on the port, the next step runs it. -/
theorem step_placeCommand (s : State) (c : BitVec 2) :
    step (s.placeCommand c) = mapNext State.advance (exec (decodeCmd c) (s.placeCommand c).takeResponse) := by
  rw [step_of_quiet (s := s.placeCommand c) rfl]
  exact congrArg (mapNext State.advance) (execSeqIdle_eq (s.placeCommand c).takeResponse)

/-- A poll that reads a packet other than PREV stores it and ends in the word of its event (R72, R93). -/
theorem poll_of_fresh {s : State} {p : Packet} (hw : s.writeAnswer = .ok) (hr : pollReadAnswer s = .ok p)
    (hp : p ≠ s.prev) : (poll s).prev = p ∧ pollWord s = p.event.word := by
  by_cases he : p.event = .noEvent
  · simp [pollWord, poll_miss hw hr hp he, he, NormalizedEvent.word]
  · simp [pollWord, poll_event hw hr hp he]

/-- With a packet other than PREV placed in the answers, the next step reads, stores and reports it (R92). -/
theorem step_placePacket {s : State} {p : Packet} (hp : p ≠ s.prev) :
    ∃ t, step (s.placePacket p) = .next t ∧ t.prev = p ∧ t.response = some p.event.word := by
  obtain ⟨hprev, hword⟩ :=
    poll_of_fresh (s := (s.placePacket p).takeResponse.log (.accepted .readEvent)) (p := p) rfl rfl hp
  exact ⟨(readEvent (s.placePacket p).takeResponse).advance, rfl, hprev, congrArg some hword⟩

/-- The complemented first byte makes a packet differ from PREV. -/
theorem build_freshBits_ne (prev : Packet) (gesture : Byte) (points : BitVec 4) (phase : BitVec 2) (x y : Coord) :
    Packet.build gesture points phase (freshBits prev) x y ≠ prev := by
  have hbyte : ∀ b : Byte, ~~~b ≠ b := by decide
  exact fun h => hbyte prev.p0 (congrArg Packet.p0 h)

/-- For the word of an event there is a packet, other than PREV, that decodes to the event. -/
theorem packetForWord_word (prev : Packet) (e : NormalizedEvent) :
    ∃ p, packetForWord prev e.word = some p ∧ p ≠ prev ∧ p.event = e := by
  cases e with
  | noEvent => exact ⟨_, rfl, build_freshBits_ne prev _ _ _ _ _, quietPacket_event _⟩
  | startAt x y =>
    refine ⟨startPacket (freshBits prev) x y, ?_, build_freshBits_ne prev _ _ _ _ _, startPacket_event ..⟩
    simp [packetForWord, NormalizedEvent.word_ne_zero]
  | moveAt x y =>
    refine ⟨movePacket (freshBits prev) x y, ?_, build_freshBits_ne prev _ _ _ _ _, movePacket_event ..⟩
    simp [packetForWord, NormalizedEvent.word_ne_zero, Config.tagStart, Config.tagMove]
  | endAt x y =>
    refine ⟨endPacket (freshBits prev) x y, ?_, build_freshBits_ne prev _ _ _ _ _, endPacket_event ..⟩
    simp [packetForWord, NormalizedEvent.word_ne_zero, Config.tagStart, Config.tagMove, Config.tagEnd]

section withFetchWord

variable (s : State)

/-- A 2-bit word is a command on the port. -/
theorem withFetchWord_cmd (k : Nat) : s.withFetchWord 2 k = s.placeCommand (BitVec.ofNat 2 k) := rfl

/-- A 3-bit word that is the code of a sequencer state puts SEQ into that state. -/
theorem withFetchWord_seq {k : Nat} {q : Seq} (h : BitVec.ofNat 3 k = q.code) : s.withFetchWord 3 k = s.placeSeq q := by
  simp [State.withFetchWord, tableCode, State.placeCode, h]

/-- The form of a packet is the packet in the environment's answers. -/
theorem withFetchWord_pkt (p : Packet) : s.withFetchWord 56 p.toPkt.toNat = s.placePacket p := by
  simp [State.withFetchWord, tableCode, State.placeCode]

/-- An event word is the packet that is found for it, in the environment's answers. -/
theorem withFetchWord_evw {w : EventWord} {p : Packet} (h : packetForWord s.prev w = some p) :
    s.withFetchWord 32 w.toNat = s.placePacket p := by
  simp [State.withFetchWord, tableCode, State.placeCode, h]

end withFetchWord

/-- A 3-bit word of the table is read as a SEQ code. -/
theorem decodeTableWord_seq {k : Nat} {i : Instr} (h : decodeTableWord 3 k = some i) :
    decodeSeq (BitVec.ofNat 3 k) = .ok i := by
  simp only [decodeTableWord, tableCode, decode] at h
  cases hd : decodeSeq (BitVec.ofNat 3 k) <;> simp_all

/-- Settles O55: a placed code is selected by the port or by SEQ; a placed packet, and a packet found for an event word, is
read, is not PREV and so is decoded. -/
theorem placedWordRuns : Obligations.PlacedWordRuns := by
  refine ⟨fun s k _ => ?_, fun s k i _ hi => ?_, fun s p hp => ?_, fun s e => ?_⟩
  · rw [withFetchWord_cmd]
    exact step_placeCommand s _
  · obtain ⟨q, hcode, rfl⟩ := eq_code_of_decodeSeq (decodeTableWord_seq hi)
    rw [withFetchWord_seq s hcode]
    exact step_of_quiet (s := s.placeSeq q) rfl
  · rw [withFetchWord_pkt]
    exact step_placePacket hp
  · obtain ⟨p, hpacket, hp, rfl⟩ := packetForWord_word s.prev e
    rw [withFetchWord_evw s hpacket]
    obtain ⟨t, ht, -, hresponse⟩ := step_placePacket hp
    exact ⟨t, ht, hresponse⟩

end Sys2Proof.Machine
end

section
/-! SUPPORT. The Frame Reader (40_frame_reader.md R61 to R67): its operations without the launch premise and under it, the
lines of its outcome table, and that a poll without a new packet is silent whichever of its transfers failed (R112). -/

namespace Sys2Proof.Machine

/-! The launch premise. -/

/-- Without the launch premise an operation that needs it is refused (U5). -/
theorem withInit_of_not_init {s : State} (h : s.initDone = false) (t : State) : withInit s t = .refused .initNotDone := by
  simp [withInit, h]

/-- An idle block is ready, so READ_EVENT needs only the launch premise (R42, R66). -/
theorem execReadEvent_of_idle {s : State} (h : s.seq = .idle) : execReadEvent s = withInit s (readEvent s) := by
  simp [execReadEvent, State.ready, h]

/-- An idle block is ready, so AWAIT_CLICK needs only the launch premise (R42, R66). -/
theorem execAwaitClick_of_idle {s : State} (h : s.seq = .idle) :
    execAwaitClick s = withInit s (acceptAwaitClick s) := by
  simp [execAwaitClick, State.ready, h]

/-- An idle block accepts READ_EVENT under the launch premise (R92). -/
theorem exec_readEvent_accepted {s : State} (hinit : s.initDone = true) (hidle : s.seq = .idle) :
    exec .readEvent s = .next (readEvent s) :=
  (execReadEvent_of_idle hidle).trans (withInit_of_init hinit _)

/-- Settles O14: each of these operations goes through `withInit`, the two commands once the block is ready. -/
theorem launchPremiseRequired : Obligations.LaunchPremiseRequired := by
  intro s hinit
  have hrefused : ∀ t, withInit s t = .refused .initNotDone := withInit_of_not_init hinit
  refine ⟨hrefused _, hrefused _, hrefused _, hrefused _, hrefused _, hrefused _, hrefused _, fun hidle => ⟨?_, ?_⟩⟩
  · exact (execReadEvent_of_idle hidle).trans (hrefused _)
  · exact (execAwaitClick_of_idle hidle).trans (hrefused _)

/-! The stages alone. -/

/-- Settles O15: with CUR empty a stage on CUR answers the state as it is. -/
theorem emptyCurChangesNothing : Obligations.EmptyCurChangesNothing := by
  intro s hcur
  have hskipped : ∀ stage, withCur stage s = .next s := fun stage => (withCur_next stage).2 (.inl ⟨hcur, rfl⟩)
  exact ⟨hskipped filterStage, hskipped decodeStage⟩

/-- Settles O16: BUS_REGSEL is the write primitive on the one byte 0x00. -/
theorem registerSelectWrite : Obligations.RegisterSelectWrite := by
  intro s hinit
  refine (withInit_of_init hinit (regSelectWrite s)).trans ?_
  simp [regSelectWrite, busWrite, regSelectEntry, Config.regSelect]

/-- Settles O17: BUS_READ7 is the read primitive on 7 bytes. -/
theorem packetReadTransfer : Obligations.PacketReadTransfer := by
  intro s hinit
  refine (withInit_of_init hinit (packetRead s)).trans ?_
  simp [packetRead, busRead, packetReadEntry, Config.packetLen]

/-! The outcome table of POLL_FRAME (R67), line by line. -/

/-- The register-select write uses no read answer (R27, R61). -/
@[simp] theorem regSelectWrite_readAnswers (s : State) : (regSelectWrite s).readAnswers = s.readAnswers := rfl

/-- POLL_FRAME gives no response (R43, R67). -/
@[simp] theorem frameStage_response (s : State) : (frameStage s).response = s.response := by
  cases hw : s.writeAnswer with
  | fail => simp [frameStage_writeFail hw, regSelectWrite_eq]
  | ok =>
    cases hr : pollReadAnswer s with
    | fail => simp [frameStage_readFail hw hr, regSelectWrite_eq, packetRead_eq]
    | ok p => simp [frameStage_fresh hw hr, regSelectWrite_eq, packetRead_eq]

section lines

variable {s : State}

/-- A failed write: NoData, no packet in CUR, no read answer used, one transfer. -/
theorem frameStage_line_writeFail (hw : s.writeAnswer = .fail) :
    (frameStage s).wires.frame = .noData ∧ (frameStage s).cur = none ∧
      (frameStage s).readAnswers = s.readAnswers ∧
      (frameStage s).history = s.history ++ [regSelectEntry .fail, .outcome .busWriteFailure] := by
  simp [frameStage_writeFail hw, hw]

/-- A failed read: NoData, no packet in CUR, two transfers. -/
theorem frameStage_line_readFail (hw : s.writeAnswer = .ok) (hr : pollReadAnswer s = .fail) :
    (frameStage s).wires.frame = .noData ∧ (frameStage s).cur = none ∧
      (frameStage s).history =
        s.history ++ [regSelectEntry .ok, packetReadEntry .fail, .outcome .busReadFailure] := by
  simp [frameStage_readFail hw hr, hw, hr]

/-- A successful read: Fresh with the packet, which CUR holds, two transfers. -/
theorem frameStage_line_fresh {p : Packet} (hw : s.writeAnswer = .ok) (hr : pollReadAnswer s = .ok p) :
    (frameStage s).wires.frame = .fresh p ∧ (frameStage s).cur = some p ∧
      (frameStage s).history = s.history ++ [regSelectEntry .ok, packetReadEntry (.ok p)] := by
  simp [frameStage_fresh hw hr, hw, hr]

end lines

/-! A poll without a new packet. -/

/-- The next poll delivers no packet but PREV: its write fails, its read fails, or it reads PREV again. -/
def NoNewPacket (s : State) : Prop :=
  s.writeAnswer = .ok → pollReadAnswer s = .fail ∨ pollReadAnswer s = .ok s.prev

/-- A failed write brings no packet (R65). -/
theorem noNewPacket_of_writeFail {s : State} (h : s.writeAnswer = .fail) : NoNewPacket s := by
  simp [NoNewPacket, h]

/-- A poll without a new packet ends in the word 0 and leaves PREV (R65, R73). -/
theorem poll_of_noNewPacket {s : State} (h : NoNewPacket s) :
    pollWord s = 0#32 ∧ (poll s).prev = s.prev := by
  cases hw : s.writeAnswer with
  | fail => simp [pollWord, poll_writeFail hw, regSelectWrite_eq]
  | ok =>
    rcases h hw with hr | hr
    · simp [pollWord, poll_readFail hw hr, regSelectWrite_eq, packetRead_eq]
    · simp [pollWord, poll_duplicate hw hr rfl, regSelectWrite_eq, packetRead_eq]

/-- READ_EVENT responds 0 and leaves PREV when its poll finds no new packet, whatever the reason (R92, R112). -/
theorem readEvent_of_noNewPacket {s : State} (h : NoNewPacket s) :
    (readEvent s).response = some 0#32 ∧ (readEvent s).prev = s.prev := by
  obtain ⟨hword, hprev⟩ := poll_of_noNewPacket (s := s.log (.accepted .readEvent)) h
  exact ⟨congrArg some hword, hprev⟩

/-- Settles O18: POLL_FRAME answers `frameStage`, whose three lines are the lemmas above; a failed write brings no packet, so
READ_EVENT responds 0. -/
theorem frameReaderOutcomes : Obligations.FrameReaderOutcomes := by
  refine ⟨fun s hinit => ?_, fun s hinit hidle hw => ?_⟩
  · obtain ⟨hprev, hr, hseq, hinit', hpins⟩ := frameStage_frame s
    exact ⟨frameStage s, withInit_of_init hinit _, ⟨hprev, hr, hseq⟩, ⟨frameStage_response s, hpins, hinit'⟩,
      frameStage_line_writeFail, frameStage_line_readFail, fun _ => frameStage_line_fresh⟩
  · obtain ⟨hresponse, -⟩ := readEvent_of_noNewPacket (noNewPacket_of_writeFail hw)
    exact ⟨readEvent s, exec_readEvent_accepted hinit hidle, hresponse⟩

/-- Settles O32: neither READ_EVENT finds a new packet, so both respond 0 and leave PREV, R and SEQ. -/
theorem failuresLookAlike : Obligations.FailuresLookAlike := by
  intro s t hsinit htinit hsidle htidle hprev hr hsw _ htr
  obtain ⟨hsresponse, hsprev⟩ := readEvent_of_noNewPacket (noNewPacket_of_writeFail hsw)
  obtain ⟨htresponse, htprev⟩ := readEvent_of_noNewPacket (s := t) fun _ => htr
  refine ⟨readEvent s, readEvent t, exec_readEvent_accepted hsinit hsidle, exec_readEvent_accepted htinit htidle,
    hsresponse.trans htresponse.symm, ?_, ?_, ?_⟩
  · rw [hsprev, htprev, hprev]
  · simp [hr]
  · simp [hsidle, htidle]

end Sys2Proof.Machine
end

section
/-! SUPPORT. The Duplicate Suppressor (41_duplicate_filter.md R70 to R75): the comparison byte by byte, the one poll that reads a
duplicate, and PREV along a sequence of polls. -/

namespace Sys2Proof.Machine

/-! One run of the filter (R70 to R73). -/

/-- The comparison with PREV is over all 7 bytes (R71). -/
theorem packet_eq_iff_bytes {p q : Packet} :
    p = q ↔ p.p0 = q.p0 ∧ p.p1 = q.p1 ∧ p.p2 = q.p2 ∧ p.p3 = q.p3 ∧ p.p4 = q.p4 ∧ p.p5 = q.p5 ∧ p.p6 = q.p6 := by
  cases p
  cases q
  simp

/-- With a packet in CUR, DUP_FILTER runs the filter on it (R70). -/
theorem exec_dupFilter_of_cur {s : State} {p : Packet} (h : s.cur = some p) :
    exec .dupFilter s = .next (filterStage p s) :=
  (withCur_next filterStage).2 (.inr ⟨p, h, rfl⟩)

/-- Settles O19: equality of the seven bytes is equality of the packets, and each branch of the filter is its lemma. -/
theorem duplicateFilterResult : Obligations.DuplicateFilterResult := by
  intro s p hcur
  rw [exec_dupFilter_of_cur hcur, ← packet_eq_iff_bytes]
  refine ⟨fun hdup => ?_, fun hnew => ?_⟩
  · rw [filterStage_duplicate hdup]
    rfl
  · rw [filterStage_pass hnew]
    rfl

/-! The poll that reads a duplicate (R73). -/

/-- A poll that reads PREV again records its two transfers and DuplicateFrame, and no outcome of the decoder. -/
theorem poll_duplicate_history {s : State} (hw : s.writeAnswer = .ok) (hr : pollReadAnswer s = .ok s.prev) :
    (poll s).history =
      s.history ++ [regSelectEntry .ok, packetReadEntry (.ok s.prev), .outcome .duplicateFrame] := by
  simp [poll_duplicate hw hr rfl, hw, hr]

/-- Settles O20: PKT_DUP is the filter's discard, and a duplicate is no new packet, so READ_EVENT responds 0. -/
theorem duplicateIsDiscarded : Obligations.DuplicateIsDiscarded := by
  refine ⟨fun s => rfl, fun s hinit hidle hw hr => ?_⟩
  obtain ⟨hresponse, hprev⟩ := readEvent_of_noNewPacket (s := s) fun _ => .inr hr
  have hword : pollWord (s.log (.accepted .readEvent)) = 0#32 := Option.some.inj hresponse
  have hpoll := poll_duplicate_history (s := s.log (.accepted .readEvent)) hw hr
  refine ⟨readEvent s, exec_readEvent_accepted hinit hidle, hresponse, hprev, ?_⟩
  simp [readEvent, afterPoll, hword, hpoll]

/-! PREV along a sequence of polls (R75). -/

/-- The next poll reads no packet but `p`; it may fail. -/
def ReadsOnly (p : Packet) (s : State) : Prop :=
  s.writeAnswer = .ok → ∀ q, pollReadAnswer s = .ok q → q = p

/-- When PREV is the one packet a poll may read, the poll finds no new packet. -/
theorem ReadsOnly.noNewPacket {s : State} (h : ReadsOnly s.prev s) : NoNewPacket s := by
  intro hw
  cases hr : pollReadAnswer s with
  | fail => exact .inl rfl
  | ok q => exact .inr (congrArg ReadAnswer.ok (h hw q hr))

/-- After a successful poll PREV is the packet read, whether it was stored (R72) or was there already (R73). -/
theorem afterPoll_prev_of_read {s : State} {p : Packet} (hw : s.writeAnswer = .ok) (hr : pollReadAnswer s = .ok p) :
    (afterPoll s).prev = p := by
  by_cases hp : p = s.prev
  · subst hp
    exact (poll_of_noNewPacket fun _ => .inr hr).2
  · exact (poll_of_fresh hw hr hp).1

/-- A packet in PREV stays there while the polls read nothing else, failed polls in between or not (R75 (2), (3)). -/
theorem iterate_afterPoll_prev {s : State} {p : Packet} {m k : Nat} (hmk : m ≤ k)
    (hprev : (afterPoll^[m] s).prev = p) (hreads : ∀ i, m ≤ i → i < k → ReadsOnly p (afterPoll^[i] s)) :
    (afterPoll^[k] s).prev = p := by
  induction k, hmk using Nat.le_induction with
  | base => exact hprev
  | succ k hmk ih =>
    have hk : (afterPoll^[k] s).prev = p := ih fun i hmi hik => hreads i hmi (by omega)
    have hread : ReadsOnly (afterPoll^[k] s).prev (afterPoll^[k] s) := hk ▸ hreads k hmk (by omega)
    rw [Function.iterate_succ_apply']
    exact (poll_of_noNewPacket hread.noNewPacket).2.trans hk

/-- Settles O28: the j-th poll leaves p in PREV, where it still stands at the k-th, which so finds no new packet. -/
theorem repeatedPacketIsSilent : Obligations.RepeatedPacketIsSilent := by
  intro s p j k hjk hw hr hreads
  have hstored : (afterPoll^[j + 1] s).prev = p := by
    rw [Function.iterate_succ_apply']
    exact afterPoll_prev_of_read hw hr
  have hprev : (afterPoll^[k] s).prev = p :=
    iterate_afterPoll_prev hjk hstored fun i hji hik => hreads i hji (by omega)
  have hread : ReadsOnly (afterPoll^[k] s).prev (afterPoll^[k] s) := hprev ▸ hreads k hjk le_rfl
  exact (poll_of_noNewPacket hread.noNewPacket).1

/-- Settles O29: the second poll leaves B in PREV, so A is a new packet for the third. -/
theorem alternatingPacketIsReported : Obligations.AlternatingPacketIsReported := by
  intro s a b hab hw _ hrb hra
  have hprev : (afterPoll^[2] s).prev = b := by
    rw [Function.iterate_succ_apply']
    exact afterPoll_prev_of_read (hw 1 (by omega)) hrb
  obtain ⟨hstored, hword⟩ := poll_of_fresh (hw 2 le_rfl) hra (hprev ▸ hab)
  refine ⟨hword, ?_⟩
  rw [Function.iterate_succ_apply']
  exact hstored

end Sys2Proof.Machine
end

section
/-! SUPPORT. The Event Decoder (42_event_decoder.md R76 to R88): the rows of the decision table by the packet's bytes, the event
of each row, DECODE and its packet classes, PACK and the way back from its word, and the poll that produces an event. -/

namespace Sys2Proof

/-! The rows of the decision table by the bytes of the packet (R76). -/

/-- Comparing the masked points is comparing byte 2 modulo 16 (R47). -/
theorem Packet.points_eq_iff_toNat (p : Packet) (f : BitVec 4) :
    p.points = f.setWidth 8 ↔ p.p2.toNat % 16 = f.toNat := by
  rw [p.points_eq_iff, ← BitVec.toNat_inj]
  simp

/-- Comparing the phase in place is comparing the quotient of byte 3 by 64 (R47). -/
theorem Packet.phase_eq_iff_toNat (p : Packet) (f : BitVec 2) :
    p.phase = f.setWidth 8 <<< 6 ↔ p.p3.toNat / 64 = f.toNat := by
  have hfield : (p.p3.extractLsb' 6 2).toNat = p.p3.toNat / 64 := by
    rw [BitVec.extractLsb'_toNat, Nat.shiftRight_eq_div_pow]
    omega
  rw [p.phase_eq_iff, ← BitVec.toNat_inj, hfield]

/-- The test of a row is a test of the bytes 1 to 3. -/
theorem Packet.row_iff_bytes (p : Packet) (points : BitVec 4) (phase : BitVec 2) :
    (p.gesture == Config.noGesture && p.points == points.setWidth 8 && p.phase == phase.setWidth 8 <<< 6) = true ↔
      p.p1 = 0x00#8 ∧ p.p2.toNat % 16 = points.toNat ∧ p.p3.toNat / 64 = phase.toNat := by
  simp only [Bool.and_eq_true, beq_iff_eq, and_assoc, p.points_eq_iff_toNat, p.phase_eq_iff_toNat, Packet.gesture,
    Config.noGesture]

/-- The Start row (R79). -/
theorem Packet.startRow_iff_bytes (p : Packet) :
    p.startRow = true ↔ p.p1 = 0x00#8 ∧ p.p2.toNat % 16 = 1 ∧ p.p3.toNat / 64 = 0 := p.row_iff_bytes 1#4 0b00#2

/-- The Move row (R80). -/
theorem Packet.moveRow_iff_bytes (p : Packet) :
    p.moveRow = true ↔ p.p1 = 0x00#8 ∧ p.p2.toNat % 16 = 1 ∧ p.p3.toNat / 64 = 2 := p.row_iff_bytes 1#4 0b10#2

/-- The End row (R81). -/
theorem Packet.endRow_iff_bytes (p : Packet) :
    p.endRow = true ↔ p.p1 = 0x00#8 ∧ p.p2.toNat % 16 = 0 ∧ p.p3.toNat / 64 = 1 := p.row_iff_bytes 0#4 0b01#2

/-! The event of a packet by its row: a packet of a row is the packet of the row's class (R79 to R82). -/

theorem Packet.event_of_startRow {p : Packet} (h : p.startRow = true) : p.event = .startAt p.x p.y := by
  rw [← startPacket_event p.ignored, startPacket_of_startRow h]

theorem Packet.event_of_moveRow {p : Packet} (h : p.moveRow = true) : p.event = .moveAt p.x p.y := by
  rw [← movePacket_event p.ignored, movePacket_of_moveRow h]

theorem Packet.event_of_endRow {p : Packet} (h : p.endRow = true) : p.event = .endAt p.x p.y := by
  rw [← endPacket_event p.ignored, endPacket_of_endRow h]

/-- A packet of no row has the event None (R82). -/
theorem Packet.event_of_noRow {p : Packet} (h : noRow p = true) : p.event = .noEvent := by
  simp only [noRow, Bool.and_eq_true, Bool.not_eq_true'] at h
  obtain ⟨⟨hs, hm⟩, he⟩ := h
  simp [Packet.event, hs, hm, he]

/-- No row takes a packet with a gesture code: every row asks for NO_GESTURE (R77). -/
theorem noRow_of_gesture {p : Packet} (h : p.p1 ≠ Config.noGesture) : noRow p = true := by
  simp [noRow, Packet.startRow, Packet.moveRow, Packet.endRow, Packet.gesture, h]

/-- Outside the three pairs of points and phase there is no row, whatever the gesture (R82). -/
theorem noRow_of_otherPair {p : Packet}
    (hone : ¬ (p.p2.toNat % 16 = 1 ∧ (p.p3.toNat / 64 = 0 ∨ p.p3.toNat / 64 = 2)))
    (hzero : ¬ (p.p2.toNat % 16 = 0 ∧ p.p3.toNat / 64 = 1)) : noRow p = true := by
  simp only [noRow, Bool.and_eq_true, Bool.not_eq_true', ← Bool.not_eq_true, p.startRow_iff_bytes, p.moveRow_iff_bytes,
    p.endRow_iff_bytes]
  exact ⟨⟨fun ⟨_, hpts, hph⟩ => hone ⟨hpts, .inl hph⟩, fun ⟨_, hpts, hph⟩ => hone ⟨hpts, .inr hph⟩⟩,
    fun ⟨_, hpts, hph⟩ => hzero ⟨hpts, hph⟩⟩

/-! PACK and the way back (R84, R86). -/

/-- A tag followed by the payload, as R84 writes it. -/
theorem or_payload (tag : EventWord) (x y : Coord) :
    tag ||| payload x y = tag ||| (x.setWidth 32 <<< 12) ||| y.setWidth 32 := by
  simp [payload, Config.xShift, Config.yShift, BitVec.or_assoc]

/-- A test of tag bits is a test of the tag field (R46, R48). -/
theorem and_tag_eq_tagField_and {tag : EventWord} (h : tagField tag = tag) (w : EventWord) :
    w &&& tag = tagField w &&& tag := by
  rw [← h, tagField, tagField, BitVec.and_comm tag, BitVec.and_assoc w, ← BitVec.and_assoc 0xFF000000#32,
    BitVec.and_self]

/-- The kind comes back out of the packed word (R48, R86). -/
@[simp] theorem NormalizedEvent.kindOf_word (e : NormalizedEvent) : kindOf e.word = some e.kind := by
  have hstart : tagField Config.tagStart = Config.tagStart := by decide
  have hmove : tagField Config.tagMove = Config.tagMove := by decide
  have hend : tagField Config.tagEnd = Config.tagEnd := by decide
  rw [kindOf, and_tag_eq_tagField_and hstart, and_tag_eq_tagField_and hmove, and_tag_eq_tagField_and hend]
  cases e with
  | noEvent => rfl
  | startAt x y | moveAt x y | endAt x y =>
    simp [NormalizedEvent.word_ne_zero, NormalizedEvent.kind, Config.tagStart, Config.tagMove, Config.tagEnd]

/-- The host's reading of a word: the kind, then the coordinates (R48); a word without a kind is never produced (U11). -/
def unpack (w : EventWord) : NormalizedEvent :=
  match kindOf w with
  | some .startKind => .startAt (xOf w) (yOf w)
  | some .moveKind => .moveAt (xOf w) (yOf w)
  | some .endKind => .endAt (xOf w) (yOf w)
  | some .noneKind => .noEvent
  | none => .noEvent

/-- Unpacking undoes PACK (R86). -/
theorem unpack_word (e : NormalizedEvent) : unpack e.word = e := by
  rw [unpack, e.kindOf_word]
  cases e <;> simp [NormalizedEvent.kind]

/-- Settles O8: each part of an event comes back out of its word, so unpacking is a left inverse of PACK. -/
theorem packThenUnpack : Obligations.PackThenUnpack := by
  refine ⟨fun x y => ⟨?_, ?_, ?_⟩, NormalizedEvent.kindOf_word .noEvent,
    fun _ _ h => Function.LeftInverse.injective unpack_word h⟩
  · obtain ⟨-, hx, hy⟩ := startAt_word_fields x y
    exact ⟨hx, hy, NormalizedEvent.kindOf_word _⟩
  · obtain ⟨-, hx, hy⟩ := moveAt_word_fields x y
    exact ⟨hx, hy, NormalizedEvent.kindOf_word _⟩
  · obtain ⟨-, hx, hy⟩ := endAt_word_fields x y
    exact ⟨hx, hy, NormalizedEvent.kindOf_word _⟩

namespace Machine

/-! DECODE (R76, R77, R82). -/

/-- The gesture gate names the cause of a packet with a gesture code (R77, R111). -/
theorem missCause_of_gesture {p : Packet} (h : p.p1 ≠ Config.noGesture) : missCause p = .unrecognizedGesture :=
  if_pos h

/-- Behind the gate the cause is the pair of points and phase (R82, R111). -/
theorem missCause_of_noGesture {p : Packet} (h : p.p1 = Config.noGesture) :
    missCause p = .unrecognizedPhaseCombination :=
  if_neg (not_not.2 h)

/-- With a packet in CUR, DECODE runs the decoder on it (R76). -/
theorem exec_decode_of_cur {s : State} {p : Packet} (h : s.cur = some p) :
    exec .decode s = .next (decodeStage p s) :=
  (withCur_next decodeStage).2 (.inr ⟨p, h, rfl⟩)

/-- DECODE gives no response and uses no answer of the environment (R87). -/
@[simp] theorem decodeStage_ports (p : Packet) (s : State) :
    (decodeStage p s).response = s.response ∧ (decodeStage p s).writeAnswers = s.writeAnswers ∧
      (decodeStage p s).readAnswers = s.readAnswers ∧ (decodeStage p s).draws = s.draws := by
  by_cases h : p.event = .noEvent
  · simp [decodeStage_miss h]
  · simp [decodeStage_event h]

section decoder

variable {p : Packet} (s : State)

/-- DECODE of a packet with an event delivers it and records nothing (R79 to R81). -/
theorem decodeStage_delivers {e : NormalizedEvent} (h : p.event = e) (he : e ≠ .noEvent) :
    (decodeStage p s).wires.event = e ∧ (decodeStage p s).history = s.history := by
  subst h
  simp [decodeStage_event he]

/-- DECODE of a packet of no row delivers None and records the cause (R77, R82). -/
theorem decodeStage_records {c : Cause} (h : noRow p = true) (hc : missCause p = c) :
    (decodeStage p s).wires.event = .noEvent ∧ (decodeStage p s).history = s.history ++ [.outcome c] := by
  simp [decodeStage_miss (Packet.event_of_noRow h), hc]

/-- EV_NONE delivers None and the word 0 and records the cause of its packet (R82). -/
theorem exec_evNone {c : Cause} (hc : missCause p = c) :
    exec (.evNone p) s = .next { s with
      wires := { s.wires with event := .noEvent, word := 0#32 }, history := s.history ++ [.outcome c] } := by
  subst hc
  rfl

end decoder

/-- Settles O21: DECODE answers `decodeStage`; the three pairs are the rows of the table, and the gate and every other pair
leave no row. -/
theorem decisionTable : Obligations.DecisionTable := by
  intro s p hcur
  obtain ⟨hprev, hcur', hr, hseq, hinit, hpins⟩ := decodeStage_frame p s
  obtain ⟨hresponse, hwrite, hread, hdraws⟩ := decodeStage_ports p s
  refine ⟨decodeStage p s, exec_decode_of_cur hcur, ⟨hprev, hr, hseq⟩, ⟨hresponse, hpins, hinit⟩, hcur', hwrite, hread,
    hdraws, fun hgest => ?_, fun hgest hpts hph => ?_, fun hgest hpts hph => ?_, fun hgest hpts hph => ?_,
    fun hgest hone hzero => ?_⟩
  · exact decodeStage_records s (noRow_of_gesture hgest) (missCause_of_gesture hgest)
  · exact decodeStage_delivers s (Packet.event_of_startRow (p.startRow_iff_bytes.2 ⟨hgest, hpts, hph⟩)) nofun
  · exact decodeStage_delivers s (Packet.event_of_moveRow (p.moveRow_iff_bytes.2 ⟨hgest, hpts, hph⟩)) nofun
  · exact decodeStage_delivers s (Packet.event_of_endRow (p.endRow_iff_bytes.2 ⟨hgest, hpts, hph⟩)) nofun
  · exact decodeStage_records s (noRow_of_otherPair hone hzero) (missCause_of_noGesture hgest)

/-- Settles O22: no row takes a packet with a gesture code, and its cause is the gate's. -/
theorem gestureGate : Obligations.GestureGate := by
  refine ⟨rfl, fun p hgest => Packet.event_of_noRow (noRow_of_gesture hgest), fun s p hcur hgest => ?_⟩
  obtain ⟨hevent, hhistory⟩ := decodeStage_records s (noRow_of_gesture hgest) (missCause_of_gesture hgest)
  exact ⟨decodeStage p s, exec_decode_of_cur hcur, hevent, hhistory⟩

/-- Settles O23: each class is the delivery of its event, which is the event of the packet of its row. -/
theorem eventClassesDeliver : Obligations.EventClassesDeliver := fun _ g x y =>
  ⟨⟨rfl, startPacket_event g x y⟩, ⟨rfl, movePacket_event g x y⟩, ⟨rfl, endPacket_event g x y⟩⟩

/-- Settles O24: the gate decides the cause, and a well-formed EV_NONE has a packet of no row. -/
theorem noneClassDelivers : Obligations.NoneClassDelivers := by
  intro s p
  refine ⟨fun hgest => exec_evNone s (missCause_of_gesture hgest),
    fun hgest => exec_evNone s (missCause_of_noGesture hgest), fun hwf => ?_⟩
  obtain ⟨-, hrow⟩ := Bool.and_eq_true_iff.1 hwf
  exact Packet.event_of_noRow hrow

/-! PACK (R84, R87). -/

/-- The transfers of two histories, one after the other. -/
@[simp] theorem transfers_append (h k : List HistoryEvent) : transfers (h ++ k) = transfers h ++ transfers k := by
  induction h with
  | nil => rfl
  | cons e h ih => cases e <;> simp [transfers, ih]

/-- PACK packs the event on the wires (R84). -/
theorem exec_pack_of_event {s : State} {e : NormalizedEvent} (h : s.wires.event = e) :
    exec .pack s = .next (packStage e s) := by
  subst h
  rfl

/-- PACK of an event leaves its word and the record that an event was produced, nothing else (R84). -/
theorem packEvent_eq {e : NormalizedEvent} {w : EventWord} (h : e.word = w) (s : State) :
    packEvent e s = { s with
      wires := { s.wires with word := w }, history := s.history ++ [.outcome (.eventProduced e.kind)] } := by
  subst h
  rfl

/-- PACK leaves the word of its event (R84). -/
@[simp] theorem packStage_word (e : NormalizedEvent) (s : State) : (packStage e s).wires.word = e.word := by
  cases e <;> rfl

/-- PACK gives no response and uses no answer of the environment (R87). -/
@[simp] theorem packStage_ports (e : NormalizedEvent) (s : State) :
    (packStage e s).response = s.response ∧ (packStage e s).writeAnswers = s.writeAnswers ∧
      (packStage e s).readAnswers = s.readAnswers ∧ (packStage e s).draws = s.draws := by
  by_cases h : e = .noEvent
  · simp [h]
  · simp [packStage_event h]

/-- PACK adds no transfer and no response to the history (R24, R87). -/
theorem packStage_transfers_responses (e : NormalizedEvent) (s : State) :
    transfers (packStage e s).history = transfers s.history ∧
      responses (packStage e s).history = responses s.history := by
  by_cases h : e = .noEvent
  · simp [h]
  · simp [packStage_event h, transfers, responses]

/-- Settles O25: each shape is PACK of its event, whose word is its tag above the payload. -/
theorem packWords : Obligations.PackWords := by
  intro s x y
  refine ⟨rfl, ?_, ?_, ?_, exec_pack_of_event, exec_pack_of_event, exec_pack_of_event, exec_pack_of_event⟩
  · exact congrArg Host.Outcome.next (packEvent_eq (e := .startAt x y) (or_payload _ x y) s)
  · exact congrArg Host.Outcome.next (packEvent_eq (e := .moveAt x y) (or_payload _ x y) s)
  · exact congrArg Host.Outcome.next (packEvent_eq (e := .endAt x y) (or_payload _ x y) s)

/-- Settles O26: PACK answers `packStage` of the event on the wires, whose frame the lemmas above give. -/
theorem packCompletes : Obligations.PackCompletes := by
  intro s
  obtain ⟨hprev, hcur, hr, hseq, hinit, hpins⟩ := packStage_frame s.wires.event s
  obtain ⟨hresponse, hwrite, hread, hdraws⟩ := packStage_ports s.wires.event s
  obtain ⟨htransfers, hresponses⟩ := packStage_transfers_responses s.wires.event s
  exact ⟨packStage s.wires.event s, exec_pack_of_event rfl, packStage_word _ _, ⟨hprev, hr, hseq⟩,
    ⟨hresponse, hpins, hinit⟩, hcur, hwrite, hread, hdraws, htransfers, hresponses⟩

/-! The poll that produces an event (R88, R94). -/

/-- A poll that does not fail and does not read PREV reads another packet. -/
theorem exists_fresh_of_not_noNewPacket {s : State} (h : ¬ NoNewPacket s) :
    ∃ p, s.writeAnswer = .ok ∧ pollReadAnswer s = .ok p ∧ p ≠ s.prev := by
  obtain ⟨hw, hr⟩ := Classical.not_imp.1 h
  obtain ⟨hfail, hprev⟩ := not_or.1 hr
  cases hread : pollReadAnswer s with
  | fail => exact absurd hread hfail
  | ok p => exact ⟨p, hw, rfl, fun hp => hprev (hp ▸ hread)⟩

/-- Settles O30: a poll without a new packet is silent, so there is one, it is stored, and its word is not that of None. -/
theorem nonzeroWordIsFreshEvent : Obligations.NonzeroWordIsFreshEvent := by
  intro s hword
  obtain ⟨p, hw, hr, hp⟩ := exists_fresh_of_not_noNewPacket fun h => hword (poll_of_noNewPacket h).1
  obtain ⟨hstored, hpacked⟩ := poll_of_fresh hw hr hp
  refine ⟨p, hw, hr, hp, hstored, hpacked, fun hnone => hword ?_⟩
  rw [hpacked, hnone]
  rfl

end Machine
end Sys2Proof
end

section
/-! SUPPORT. The poll (43_read_event.md R92 to R94): the lines of its outcome table, with the word and the outcome of a packet
read while PREV holds another or the same, and what follows from them for PREV, for READ_EVENT and for two polls compared. -/

namespace Sys2Proof

/-! The rows of the decision table by the packet's operands (R79 to R82). -/

section operands

variable {p : Packet}

/-- The Start row: one point that presses down (R79). -/
theorem Packet.startRow_iff_operands :
    p.startRow = true ↔ p.gesture = Config.noGesture ∧ p.points = 1#8 ∧ p.phase = 0x00#8 := by
  simp [Packet.startRow, Config.phasePressDown, and_assoc]

/-- The Move row: one point in contact (R80). -/
theorem Packet.moveRow_iff_operands :
    p.moveRow = true ↔ p.gesture = Config.noGesture ∧ p.points = 1#8 ∧ p.phase = 0x80#8 := by
  simp [Packet.moveRow, Config.phaseContact, and_assoc]

/-- The End row: no point, and a lift-up (R81). -/
theorem Packet.endRow_iff_operands :
    p.endRow = true ↔ p.gesture = Config.noGesture ∧ p.points = 0#8 ∧ p.phase = 0x40#8 := by
  simp [Packet.endRow, Config.phaseLiftUp, and_assoc]

/-- Any other pair of points and phase is of no row (R82). -/
theorem noRow_of_otherOperands (hone : ¬ (p.points = 1#8 ∧ (p.phase = 0x00#8 ∨ p.phase = 0x80#8)))
    (hzero : ¬ (p.points = 0#8 ∧ p.phase = 0x40#8)) : noRow p = true :=
  noRow_of_otherPair
    (fun ⟨hpts, hph⟩ => hone ⟨(p.points_eq_iff_toNat 1#4).2 hpts,
      hph.imp (p.phase_eq_iff_toNat 0b00#2).2 (p.phase_eq_iff_toNat 0b10#2).2⟩)
    (fun ⟨hpts, hph⟩ => hzero ⟨(p.points_eq_iff_toNat 0#4).2 hpts, (p.phase_eq_iff_toNat 0b01#2).2 hph⟩)

end operands

namespace Machine

/-! The word and the outcome of a packet read (R93, lines 3 to 8). -/

/-- The word of a poll that reads `p` while PREV holds `prev`. -/
def packetWord (prev p : Packet) : EventWord := if p = prev then 0#32 else p.event.word

/-- The outcome that a poll records when it reads `p` while PREV holds `prev`. -/
def packetOutcome (prev p : Packet) : Cause :=
  if p = prev then .duplicateFrame
  else if p.event = .noEvent then missCause p
  else .eventProduced p.event.kind

section packet

variable {prev p : Packet}

/-- The packet in PREV again: the filter discards it (R73). -/
theorem packet_of_duplicate (hp : p = prev) :
    packetWord prev p = 0#32 ∧ packetOutcome prev p = .duplicateFrame := by
  simp [packetWord, packetOutcome, hp]

/-- Another packet, with an event: it is reported (R79 to R81, R84). -/
theorem packet_of_event {e : NormalizedEvent} {w : EventWord} (hp : p ≠ prev) (he : p.event = e) (hsome : e ≠ .noEvent)
    (hw : e.word = w) : packetWord prev p = w ∧ packetOutcome prev p = .eventProduced e.kind := by
  simp [packetWord, packetOutcome, hp, he, hsome, hw]

/-- Another packet, of no row: the decoder makes nothing of it (R77, R82). -/
theorem packet_of_noRow {c : Cause} (hp : p ≠ prev) (hrow : noRow p = true) (hc : missCause p = c) :
    packetWord prev p = 0#32 ∧ packetOutcome prev p = c := by
  simp [packetWord, packetOutcome, hp, Packet.event_of_noRow hrow, hc, NormalizedEvent.word]

end packet

/-! The outcome table of a poll (R93), line by line. -/

@[simp] theorem regSelectWrite_prev (s : State) : (regSelectWrite s).prev = s.prev := rfl
@[simp] theorem regSelectWrite_writeAnswers (s : State) :
    (regSelectWrite s).writeAnswers = s.writeAnswers.tail := rfl
@[simp] theorem packetRead_prev (s : State) : (packetRead s).prev = s.prev := rfl
@[simp] theorem packetRead_writeAnswers (s : State) : (packetRead s).writeAnswers = s.writeAnswers := rfl
@[simp] theorem packetRead_readAnswers (s : State) : (packetRead s).readAnswers = s.readAnswers.tail := rfl

/-- Every poll makes one write transfer, so it uses one write answer (R61). -/
@[simp] theorem poll_writeAnswers (s : State) : (poll s).writeAnswers = s.writeAnswers.tail := by
  rcases poll_cases s with hw | ⟨hw, hr⟩ | ⟨p, hw, hr, hp | ⟨hp, he⟩ | ⟨hp, he⟩⟩
  · simp [poll_writeFail hw]
  · simp [poll_readFail hw hr]
  · simp [poll_duplicate hw hr hp]
  · simp [poll_miss hw hr hp he]
  · simp [poll_event hw hr hp he]

section lines

variable {s : State}

/-- A failed write: line 1. -/
theorem poll_line_writeFail (hw : s.writeAnswer = .fail) :
    pollWord s = 0#32 ∧ (poll s).prev = s.prev ∧ (poll s).cur = none ∧ (poll s).readAnswers = s.readAnswers ∧
      (poll s).history = s.history ++ [regSelectEntry .fail, .outcome .busWriteFailure] := by
  simp [pollWord, poll_writeFail hw, hw]

/-- A failed read: line 2. -/
theorem poll_line_readFail (hw : s.writeAnswer = .ok) (hr : pollReadAnswer s = .fail) :
    pollWord s = 0#32 ∧ (poll s).prev = s.prev ∧ (poll s).cur = none ∧
      (poll s).readAnswers = s.readAnswers.tail ∧
      (poll s).history =
        s.history ++ [regSelectEntry .ok, packetReadEntry .fail, .outcome .busReadFailure] := by
  simp [pollWord, poll_readFail hw hr, hw, hr]

/-- A packet read: lines 3 to 8. PREV holds it afterwards, whether it was stored (R72) or was there already (R73). -/
theorem poll_line_read {p : Packet} (hw : s.writeAnswer = .ok) (hr : pollReadAnswer s = .ok p) :
    pollWord s = packetWord s.prev p ∧ (poll s).prev = p ∧ (poll s).cur = some p ∧
      (poll s).readAnswers = s.readAnswers.tail ∧
      (poll s).history =
        s.history ++ [regSelectEntry .ok, packetReadEntry (.ok p), .outcome (packetOutcome s.prev p)] := by
  by_cases hp : p = s.prev
  · simp [pollWord, poll_duplicate hw hr hp, hw, hr, packetWord, packetOutcome, ← hp]
  · by_cases he : p.event = .noEvent
    · simp [pollWord, poll_miss hw hr hp he, hw, hr, packetWord, packetOutcome, hp, he, NormalizedEvent.word]
    · simp [pollWord, poll_event hw hr hp he, hw, hr, packetWord, packetOutcome, hp, he]

end lines

/-- Settles O31: PREV and the answers decide the line of the table, and the line gives the word, PREV, CUR and the answers
used up. -/
theorem pollDependsOnPrevAndAnswers : Obligations.PollDependsOnPrevAndAnswers := by
  intro s t hprev hwrites hreads hdraws
  have hwrite : t.writeAnswer = s.writeAnswer := by
    simp only [State.writeAnswer, hwrites, hdraws]
  have hread : pollReadAnswer t = pollReadAnswer s := by
    simp only [pollReadAnswer, regSelectWrite_eq, State.readAnswer, busWrite_readAnswers, busWrite_draws, hwrites, hreads,
      hdraws]
  cases hw : s.writeAnswer with
  | fail =>
    obtain ⟨hsword, hsprev, hscur, hsreads, -⟩ := poll_line_writeFail hw
    obtain ⟨htword, htprev, htcur, htreads, -⟩ := poll_line_writeFail (hwrite.trans hw)
    simp [*]
  | ok =>
    cases hr : pollReadAnswer s with
    | fail =>
      obtain ⟨hsword, hsprev, hscur, hsreads, -⟩ := poll_line_readFail hw hr
      obtain ⟨htword, htprev, htcur, htreads, -⟩ := poll_line_readFail (hwrite.trans hw) (hread.trans hr)
      simp [*]
    | ok p =>
      obtain ⟨hsword, hsprev, hscur, hsreads, -⟩ := poll_line_read hw hr
      obtain ⟨htword, htprev, htcur, htreads, -⟩ := poll_line_read (hwrite.trans hw) (hread.trans hr)
      simp [*]

/-! PREV and the packets of the history (R93). -/

/-- The last packet of two histories, one after the other. -/
@[simp] theorem lastPacket_append (q : Packet) (h k : List HistoryEvent) :
    lastPacket q (h ++ k) = lastPacket (lastPacket q h) k := by
  induction h generalizing q with
  | nil => rfl
  | cons e h ih =>
    match e with
    | .transfer (.read _ _ _ (.ok p)) => exact ih p
    | .transfer (.read _ _ _ .fail) | .transfer (.write _ _ _ _) | .accepted _ | .response _ | .outcome _ => exact ih q

/-- A history that goes on without a packet leaves the last one as it was. -/
theorem prevIsLastPacket_of_append {s t : State} {k : List HistoryEvent} (hs : PrevIsLastPacket s)
    (hprev : t.prev = s.prev) (hhistory : t.history = s.history ++ k) (hk : ∀ q, lastPacket q k = q) :
    PrevIsLastPacket t := by
  rw [PrevIsLastPacket, hprev, hhistory, lastPacket_append, hk]
  exact hs

/-- A poll that reads a packet leaves it in PREV, and one that fails leaves PREV and adds no packet (R93). -/
theorem poll_prevIsLastPacket {s : State} (hs : PrevIsLastPacket s) : PrevIsLastPacket (poll s) := by
  cases hw : s.writeAnswer with
  | fail =>
    obtain ⟨-, hprev, -, -, hhistory⟩ := poll_line_writeFail hw
    exact prevIsLastPacket_of_append hs hprev hhistory fun _ => rfl
  | ok =>
    cases hr : pollReadAnswer s with
    | fail =>
      obtain ⟨-, hprev, -, -, hhistory⟩ := poll_line_readFail hw hr
      exact prevIsLastPacket_of_append hs hprev hhistory fun _ => rfl
    | ok p =>
      obtain ⟨-, hprev, -, -, hhistory⟩ := poll_line_read hw hr
      rw [PrevIsLastPacket, hprev, hhistory, lastPacket_append]
      rfl

/-- An accepted READ_EVENT keeps it: its acceptance and its response hold no packet (R92). -/
theorem readEvent_prevIsLastPacket {s : State} (hs : PrevIsLastPacket s) : PrevIsLastPacket (readEvent s) := by
  have hlog : PrevIsLastPacket (s.log (.accepted .readEvent)) :=
    prevIsLastPacket_of_append hs rfl rfl fun _ => rfl
  exact prevIsLastPacket_of_append (poll_prevIsLastPacket hlog) rfl (readEvent_history s) fun _ => rfl

/-- SEQ_IDLE keeps it, whatever stands on the command port. -/
theorem execSeqIdle_prevIsLastPacket {s t : State} (hs : PrevIsLastPacket s) (h : execSeqIdle s = .next t) :
    PrevIsLastPacket t := by
  rcases execSeqIdle_cases h with rfl | ⟨-, -, -, rfl⟩ | ⟨-, -, -, rfl⟩
  · exact hs
  · exact readEvent_prevIsLastPacket hs
  · exact prevIsLastPacket_of_append hs rfl (acceptAwaitClick_history s) fun _ => rfl

/-- Whether its word is an End word or not, AWAIT_END leaves PREV as its poll does (R99). -/
@[simp] theorem awaitEndStep_prev (s : State) : (awaitEndStep s).prev = (poll s).prev := by
  unfold awaitEndStep
  split <;> rfl

/-- Settles O48: a polling step leaves PREV and the packets of the history as its poll does, SEQ_IDLE polls or adds no packet,
DONE adds none, and a block reset clears both. -/
theorem stepKeepsPrevIsLastPacket : Obligations.StepKeepsPrevIsLastPacket := by
  intro s t hs h
  rcases step_cases h with ⟨-, rfl⟩ | ⟨-, rfl⟩ | ⟨-, u, rfl, hu⟩
  · rfl
  · exact hs
  · have htaken : PrevIsLastPacket s.takeResponse := hs
    have hpoll := poll_prevIsLastPacket htaken
    change PrevIsLastPacket u
    rcases hu with ⟨-, hidle⟩ | ⟨-, -, rfl⟩ | ⟨-, -, rfl⟩ | ⟨-, -, rfl⟩ | ⟨-, -, rfl⟩ | ⟨-, rfl⟩
    · exact execSeqIdle_prevIsLastPacket htaken hidle
    · exact hpoll
    · exact hpoll
    · simpa [PrevIsLastPacket] using hpoll
    · exact hpoll
    · exact prevIsLastPacket_of_append htaken rfl (doneStep_history _) fun _ => rfl

/-! The outcome table as READ_EVENT runs it (R92, R93). -/

section readEvent

variable {s : State}

/-- What an accepted READ_EVENT responds and leaves in PREV, CUR and the answers is its poll's (R92). -/
theorem readEvent_poll (s : State) :
    (readEvent s).response = some (pollWord (s.log (.accepted .readEvent))) ∧
      (readEvent s).prev = (poll (s.log (.accepted .readEvent))).prev ∧
      (readEvent s).cur = (poll (s.log (.accepted .readEvent))).cur ∧
      (readEvent s).readAnswers = (poll (s.log (.accepted .readEvent))).readAnswers :=
  ⟨rfl, rfl, rfl, rfl⟩

/-- Line 1: the write fails. -/
theorem readEvent_line_writeFail (hw : s.writeAnswer = .fail) :
    (readEvent s).response = some 0#32 ∧ (readEvent s).prev = s.prev ∧ (readEvent s).cur = none ∧
      (readEvent s).readAnswers = s.readAnswers ∧
      (readEvent s).history = s.history ++ [.accepted .readEvent, regSelectEntry .fail, .outcome .busWriteFailure,
        .response 0#32] := by
  obtain ⟨hword, hprev, hcur, hreads, hhistory⟩ := poll_line_writeFail (s := s.log (.accepted .readEvent)) hw
  simp [readEvent_poll, hword, hprev, hcur, hreads, hhistory]

/-- Line 2: the read fails. -/
theorem readEvent_line_readFail (hw : s.writeAnswer = .ok) (hr : pollReadAnswer s = .fail) :
    (readEvent s).response = some 0#32 ∧ (readEvent s).prev = s.prev ∧ (readEvent s).cur = none ∧
      (readEvent s).readAnswers = s.readAnswers.tail ∧
      (readEvent s).history = s.history ++ [.accepted .readEvent, regSelectEntry .ok, packetReadEntry .fail,
        .outcome .busReadFailure, .response 0#32] := by
  obtain ⟨hword, hprev, hcur, hreads, hhistory⟩ := poll_line_readFail (s := s.log (.accepted .readEvent)) hw hr
  simp [readEvent_poll, hword, hprev, hcur, hreads, hhistory]

/-- Lines 3 to 8: a packet is read. -/
theorem readEvent_line_read {p : Packet} (hw : s.writeAnswer = .ok) (hr : pollReadAnswer s = .ok p) :
    (readEvent s).response = some (packetWord s.prev p) ∧ (readEvent s).prev = p ∧ (readEvent s).cur = some p ∧
      (readEvent s).readAnswers = s.readAnswers.tail ∧
      (readEvent s).history = s.history ++ [.accepted .readEvent, regSelectEntry .ok, packetReadEntry (.ok p),
        .outcome (packetOutcome s.prev p), .response (packetWord s.prev p)] := by
  obtain ⟨hword, hprev, hcur, hreads, hhistory⟩ := poll_line_read (s := s.log (.accepted .readEvent)) hw hr
  simp [readEvent_poll, hword, hprev, hcur, hreads, hhistory]

end readEvent

/-- Settles O27: READ_EVENT answers `readEvent`, whose lines are the lemmas above; of a packet read, the filter, the gate and
the rows of the decision table decide the word and the outcome. -/
theorem pollOutcomeTable : Obligations.PollOutcomeTable := by
  intro s hinit hidle
  obtain ⟨-, hr, hseq, hinit', hpins⟩ := readEvent_frame s
  refine ⟨readEvent s, exec_readEvent_accepted hinit hidle, hseq.trans hidle, hr, hpins, hinit'.trans hinit,
    poll_writeAnswers _, readEvent_line_writeFail, readEvent_line_readFail, fun p hw hread => ?_⟩
  obtain ⟨hresponse, hprev, hcur, hreads, hhistory⟩ := readEvent_line_read hw hread
  refine ⟨packetWord s.prev p, packetOutcome s.prev p, hresponse, hprev, hcur, hreads, hhistory, packet_of_duplicate,
    fun hnew hgest => ?_, fun hnew hgest hpts hph => ?_, fun hnew hgest hpts hph => ?_, fun hnew hgest hpts hph => ?_,
    fun hnew hgest hone hzero => ?_⟩
  · exact packet_of_noRow hnew (noRow_of_gesture hgest) (missCause_of_gesture hgest)
  · have hrow := Packet.event_of_startRow (Packet.startRow_iff_operands.2 ⟨hgest, hpts, hph⟩)
    exact packet_of_event hnew hrow nofun (or_payload _ _ _)
  · have hrow := Packet.event_of_moveRow (Packet.moveRow_iff_operands.2 ⟨hgest, hpts, hph⟩)
    exact packet_of_event hnew hrow nofun (or_payload _ _ _)
  · have hrow := Packet.event_of_endRow (Packet.endRow_iff_operands.2 ⟨hgest, hpts, hph⟩)
    exact packet_of_event hnew hrow nofun (or_payload _ _ _)
  · exact packet_of_noRow hnew (noRow_of_otherOperands hone hzero) (missCause_of_noGesture hgest)

end Machine
end Sys2Proof
end

section
/-! SUPPORT. The Click Sequencer (44_click_sequencer.md R95 to R108): the step of a polling state as one function of its
poll's word, a run of such steps against the words of the polls, and what AWAIT_CLICK so responds. -/

namespace Sys2Proof

/-! The kind of a word that the block may produce (R48, R52). -/

/-- Only the word 0 has the kind None (R48). -/
theorem kindOf_eq_noneKind_iff (w : EventWord) : kindOf w = some .noneKind ↔ w = 0#32 := by
  unfold kindOf
  split_ifs <;> simp_all

/-- The Start test is the test of the Start tag (R48). -/
theorem kindOf_eq_startKind_iff (w : EventWord) : kindOf w = some .startKind ↔ w &&& 0x01000000#32 ≠ 0#32 := by
  by_cases hzero : w = 0#32
  · simp [kindOf, hzero]
  · unfold kindOf
    split_ifs <;> simp_all [Config.tagStart]

/-- Of the words that the block may produce, those with the End tag are of the kind End (R48, R52). -/
theorem IsEventWord.kindOf_eq_endKind_iff {w : EventWord} (h : IsEventWord w) :
    kindOf w = some .endKind ↔ w &&& 0x04000000#32 ≠ 0#32 := by
  obtain ⟨e, rfl⟩ := h
  rw [e.kindOf_word, and_tag_eq_tagField_and (by decide)]
  cases e with
  | noEvent => decide
  | startAt x y | moveAt x y | endAt x y =>
    simp [NormalizedEvent.kind, Config.tagStart, Config.tagMove, Config.tagEnd]

/-- A word that the block may produce has a kind (R52). -/
theorem IsEventWord.exists_kind {w : EventWord} (h : IsEventWord w) : ∃ k, kindOf w = some k := by
  obtain ⟨e, rfl⟩ := h
  exact ⟨e.kind, e.kindOf_word⟩

/-- A word that the block may produce, of the kind End, is an End word (R108). -/
theorem IsEventWord.isEndWord {w : EventWord} (h : IsEventWord w) (hkind : kindOf w = some .endKind) : IsEndWord w := by
  obtain ⟨e, rfl⟩ := h
  cases e with
  | endAt x y => exact ⟨x, y, rfl⟩
  | noEvent | startAt x y | moveAt x y => simp [NormalizedEvent.kind] at hkind

/-- An End word is one of the four shapes, of the kind End and so not 0 (R52, R108). -/
theorem IsEndWord.shape {w : EventWord} (h : IsEndWord w) :
    IsEventWord w ∧ w ≠ 0#32 ∧ kindOf w = some .endKind := by
  obtain ⟨x, y, rfl⟩ := h
  exact ⟨⟨.endAt x y, rfl⟩, NormalizedEvent.word_ne_zero nofun, NormalizedEvent.kindOf_word _⟩

namespace Machine

/-! One poll (R90, R94): what it adds to the history, and what it depends on. -/

/-- The polls of two histories, one after the other. -/
@[simp] theorem polls_append (h k : List HistoryEvent) : polls (h ++ k) = polls h + polls k := by
  induction h with
  | nil => simp [polls]
  | cons e h ih =>
    match e with
    | .transfer (.write _ _ _ _) =>
      simp only [List.cons_append, polls, ih]
      omega
    | .transfer (.read _ _ _ _) | .accepted _ | .response _ | .outcome _ => exact ih

/-- A poll is one poll of the history (R24, R61). -/
@[simp] theorem poll_polls (s : State) : polls (poll s).history = polls s.history + 1 := by
  rcases poll_history s with ⟨c, h⟩ | ⟨a, c, h⟩
  · simp [h, polls, regSelectEntry]
  · simp [h, polls, regSelectEntry, packetReadEntry]

/-- A poll gives no response (R94). -/
@[simp] theorem poll_responses (s : State) : responses (poll s).history = responses s.history :=
  (poll_accepted_responses s).2

/-- A poll draws a free answer for each of its transfers that no script answers. -/
theorem poll_draws (s : State) : (poll s).draws =
    if s.writeAnswer = .fail then (regSelectWrite s).draws else (packetRead (regSelectWrite s)).draws := by
  rcases poll_cases s with hw | ⟨hw, hr⟩ | ⟨p, hw, hr, hp | ⟨hp, he⟩ | ⟨hp, he⟩⟩
  · simp [poll_writeFail hw, hw, regSelectWrite_eq]
  · simp [poll_readFail hw hr, hw, regSelectWrite_eq, packetRead_eq]
  · simp [poll_duplicate hw hr hp, hw, regSelectWrite_eq, packetRead_eq]
  · simp [poll_miss hw hr hp he, hw, regSelectWrite_eq, packetRead_eq]
  · simp [poll_event hw hr hp he, hw, regSelectWrite_eq, packetRead_eq]

/-- The two states agree in what a poll depends on: PREV and the environment's answers (R94). -/
def SamePollInputs (s t : State) : Prop :=
  s.prev = t.prev ∧ s.writeAnswers = t.writeAnswers ∧ s.readAnswers = t.readAnswers ∧ s.draws = t.draws

/-- From such states the polls have the same word and leave such states again (R94). -/
theorem SamePollInputs.poll {s t : State} (h : SamePollInputs s t) :
    pollWord s = pollWord t ∧ SamePollInputs (afterPoll s) (afterPoll t) := by
  obtain ⟨hprev, hwrites, hreads, hdraws⟩ := h
  obtain ⟨hword, hprev', -, hwrites', hreads'⟩ := pollDependsOnPrevAndAnswers s t hprev hwrites hreads hdraws
  refine ⟨hword, hprev', hwrites', hreads', ?_⟩
  simp [afterPoll, poll_draws, State.writeAnswer, regSelectWrite_eq, packetRead_eq, hwrites, hreads, hdraws]

/-! The step of a polling state (R97 to R100) as one function of SEQ and the poll's word. -/

/-- The four states in which a step makes one poll (R102). -/
def Seq.polling : Seq → Bool
  | .drain1 | .awaitStart | .awaitEnd | .drain2 => true
  | .idle | .done => false

/-- SEQ after a poll with the word `w`: each polling state is left by its own word alone (R97 to R100). -/
def Seq.after (w : EventWord) : Seq → Seq
  | .drain1 => if w = 0#32 then .awaitStart else .drain1
  | .awaitStart => if kindOf w = some .startKind then .awaitEnd else .awaitStart
  | .awaitEnd => if kindOf w = some .endKind then .drain2 else .awaitEnd
  | .drain2 => if w = 0#32 then .done else .drain2
  | .idle => .idle
  | .done => .done

/-- R after a poll with the word `w`: AWAIT_END captures the word that it is left by (R99). -/
def Seq.captured (q : Seq) (r w : EventWord) : EventWord :=
  if q = .awaitEnd ∧ kindOf w = some .endKind then w else r

/-- One poll, after which SEQ and R are as its word says. -/
def pollAndMove (s : State) : State :=
  { afterPoll s with
    seq := s.seq.after (pollWord s)
    r := s.seq.captured (afterPoll s).r (pollWord s) }

/-- A step without a platform event, from a polling state under the launch premise. -/
def pollStep (s : State) : State := (pollAndMove s.takeResponse).advance

section seq

variable {q : Seq} {r w : EventWord}

/-- A poll leads from no polling state back to IDLE (R102). -/
theorem Seq.after_ne_idle (h : q ≠ .idle) : q.after w ≠ .idle := by
  cases q with
  | idle => exact absurd rfl h
  | drain1 | awaitStart | awaitEnd | drain2 =>
    rw [Seq.after]
    split <;> nofun
  | done => nofun

theorem Seq.ne_idle_of_polling (h : q.polling = true) : q ≠ .idle := by
  rintro rfl
  cases h

/-- Where SEQ polls after a poll it did so before. -/
theorem Seq.polling_of_after (h : (q.after w).polling = true) : q.polling = true := by
  cases q with
  | idle | done => exact h
  | drain1 | awaitStart | awaitEnd | drain2 => rfl

/-- The moves of the polling states are edges of the table (R102). -/
theorem Seq.mayFollow_after (h : q.polling = true) : seqMayFollow q (q.after w) = true := by
  cases q with
  | idle | done => cases h
  | drain1 | awaitStart | awaitEnd | drain2 =>
    rw [Seq.after]
    split <;> rfl

/-- As long as AWAIT_END is not left, R is not written (R99). -/
theorem Seq.captured_of_stays (h : q.after w = q) : q.captured r w = r := by
  refine if_neg ?_
  rintro ⟨rfl, hend⟩
  simp [Seq.after, hend] at h

/-- Only AWAIT_END writes R (R97, R98, R100). -/
@[simp] theorem Seq.captured_of_ne (h : q ≠ .awaitEnd) : q.captured r w = r := if_neg fun hq => h hq.1

/-- The word 0 is no End word: R is not written (R99). -/
@[simp] theorem Seq.captured_zero : q.captured r 0#32 = r := if_neg fun hq => absurd hq.2 (by decide)

end seq

/-- A polling state's operation is one poll with the moves of its word (R97 to R100). -/
theorem exec_of_polling {s : State} (hq : s.seq.polling = true) (hinit : s.initDone = true) :
    exec s.seq.instr s = .next (pollAndMove s) := by
  cases hseq : s.seq with
  | idle | done => simp [hseq, Seq.polling] at hq
  | drain1 | awaitStart | drain2 =>
    refine (withInit_of_init hinit _).trans (congrArg Host.Outcome.next ?_)
    simp [drain1Step, awaitStartStep, drain2Step, pollAndMove, hseq, Seq.after]
  | awaitEnd =>
    refine (withInit_of_init hinit _).trans (congrArg Host.Outcome.next ?_)
    by_cases hend : kindOf (pollWord s) = some .endKind
    · simp [awaitEndStep, pollAndMove, hseq, Seq.after, Seq.captured, hend]
    · simp [awaitEndStep, pollAndMove, hseq, Seq.after, Seq.captured, hend]

/-! The steps without a platform event (R102). -/

section steps

variable {s : State}

/-- The step of a polling state (R97 to R100). -/
theorem step_of_polling (hq : s.seq.polling = true) (hinit : s.initDone = true)
    (hquiet : s.sample.platform = .quiet) : step s = .next (pollStep s) := by
  rw [step_of_quiet hquiet]
  exact congrArg (mapNext State.advance) (exec_of_polling (s := s.takeResponse) hq hinit)

/-- The step from DONE (R101). -/
theorem step_of_done (hseq : s.seq = .done) (hquiet : s.sample.platform = .quiet) :
    step s = .next (doneStep s.takeResponse).advance := by
  rw [step_of_quiet hquiet, hseq]
  rfl

/-- The step from IDLE runs what the code on the port decodes to (R42). -/
theorem step_of_idle (hseq : s.seq = .idle) (hquiet : s.sample.platform = .quiet) :
    step s = mapNext State.advance (exec (decodeCmd s.sample.cmd) s.takeResponse) := by
  rw [step_of_quiet hquiet, hseq]
  exact congrArg (mapNext State.advance) (execSeqIdle_eq s.takeResponse)

/-- AWAIT_CLICK accepted (R96). -/
theorem exec_awaitClick_accepted (hinit : s.initDone = true) (hseq : s.seq = .idle) :
    exec .awaitClick s = .next (acceptAwaitClick s) :=
  (execAwaitClick_of_idle hseq).trans (withInit_of_init hinit _)

/-- The step that accepts an AWAIT_CLICK (R96). -/
theorem step_of_awaitClick (hseq : s.seq = .idle) (hinit : s.initDone = true)
    (hquiet : s.sample.platform = .quiet) (hcmd : s.sample.cmd = 0b10#2) :
    step s = .next (acceptAwaitClick s.takeResponse).advance := by
  rw [step_of_idle hseq hquiet, hcmd]
  exact congrArg (mapNext State.advance) (exec_awaitClick_accepted (s := s.takeResponse) hinit hseq)

/-- The step that accepts and answers a READ_EVENT (R92). -/
theorem step_of_readEvent (hseq : s.seq = .idle) (hinit : s.initDone = true)
    (hquiet : s.sample.platform = .quiet) (hcmd : s.sample.cmd = 0b01#2) :
    step s = .next (readEvent s.takeResponse).advance := by
  rw [step_of_idle hseq hquiet, hcmd]
  exact congrArg (mapNext State.advance) (exec_readEvent_accepted (s := s.takeResponse) hinit hseq)

/-- Everything a step can do, the four polling states together: `step_cases` with one function for their steps. -/
theorem step_moves {t : State} (h : step s = .next t) :
    (s.sample.platform = .blockReset ∧ t = s.blockReset.advance) ∨
    (s.sample.platform = .controllerInit ∧ t = s.controllerInit.advance) ∨
    (s.sample.platform = .quiet ∧
      ((s.seq = .idle ∧ ∃ u, execSeqIdle s.takeResponse = .next u ∧ t = u.advance) ∨
       (s.seq.polling = true ∧ t = pollStep s) ∨
       (s.seq = .done ∧ t = (doneStep s.takeResponse).advance))) := by
  rcases step_cases h with hreset | hctrl | ⟨hquiet, u, rfl, hu⟩
  · exact .inl hreset
  · exact .inr (.inl hctrl)
  · have hpolled {q : Seq} (hseq : s.seq = q) (hq : q.polling = true) (hinit : s.initDone = true) :
        s.seq.polling = true ∧ u.advance = pollStep s := by
      subst hseq
      exact ⟨hq, Host.Outcome.next.inj (h.symm.trans (step_of_polling hq hinit hquiet))⟩
    refine .inr (.inr ⟨hquiet, ?_⟩)
    rcases hu with ⟨hq, hidle⟩ | ⟨hq, hinit, -⟩ | ⟨hq, hinit, -⟩ | ⟨hq, hinit, -⟩ | ⟨hq, hinit, -⟩ | ⟨hq, rfl⟩
    · exact .inl ⟨hq, u, hidle, rfl⟩
    · exact .inr (.inl (hpolled hq rfl hinit))
    · exact .inr (.inl (hpolled hq rfl hinit))
    · exact .inr (.inl (hpolled hq rfl hinit))
    · exact .inr (.inl (hpolled hq rfl hinit))
    · exact .inr (.inr ⟨hq, rfl⟩)

end steps

/-! What the step of a polling state leaves in each field. -/

section pollStep

variable (s : State)

/-- A poll does not look at the response port (R94). -/
@[simp] theorem pollWord_takeResponse : pollWord s.takeResponse = pollWord s :=
  (SamePollInputs.poll (s := s.takeResponse) (t := s) ⟨rfl, rfl, rfl, rfl⟩).1

/-- A poll does not look at the history (R24, R94). -/
@[simp] theorem pollWord_log (e : HistoryEvent) : pollWord (s.log e) = pollWord s :=
  (SamePollInputs.poll (s := s.log e) (t := s) ⟨rfl, rfl, rfl, rfl⟩).1

@[simp] theorem pollStep_seq : (pollStep s).seq = s.seq.after (pollWord s) := by
  simp [pollStep, pollAndMove]

@[simp] theorem pollStep_r : (pollStep s).r = s.seq.captured s.r (pollWord s) := by
  simp [pollStep, pollAndMove]

@[simp] theorem pollStep_response : (pollStep s).response = none := by
  simp [pollStep, pollAndMove, afterPoll]

@[simp] theorem pollStep_initDone : (pollStep s).initDone = s.initDone := by
  simp [pollStep, pollAndMove]

@[simp] theorem pollStep_pins : (pollStep s).pins = s.pins.tail := by
  simp [pollStep, pollAndMove]

@[simp] theorem pollStep_writeAnswers : (pollStep s).writeAnswers = s.writeAnswers.tail :=
  poll_writeAnswers s.takeResponse

@[simp] theorem pollStep_polls : polls (pollStep s).history = polls s.history + 1 := poll_polls s.takeResponse

@[simp] theorem pollStep_responses : responses (pollStep s).history = responses s.history :=
  poll_responses s.takeResponse

end pollStep

/-! AWAIT_END by the kind of its word, and the acceptance (R96, R99). -/

/-- AWAIT_END captures an End word (R99). -/
theorem awaitEndStep_of_end {s : State} (h : kindOf (pollWord s) = some .endKind) :
    awaitEndStep s = { poll s with r := pollWord s, seq := .drain2, wires := .quiet } := if_pos h

/-- AWAIT_END discards a word of another kind (R99). -/
theorem awaitEndStep_of_not_end {s : State} (h : kindOf (pollWord s) ≠ some .endKind) :
    awaitEndStep s = { poll s with seq := .awaitEnd, wires := .quiet } := if_neg h

/-- AWAIT_END gives no response, whether its word is an End word or not (R99). -/
@[simp] theorem awaitEndStep_response (s : State) : (awaitEndStep s).response = s.response := by
  by_cases h : kindOf (pollWord s) = some .endKind
  · simp [awaitEndStep_of_end h]
  · simp [awaitEndStep_of_not_end h]

/-- Settles O33: acceptance is `acceptAwaitClick`; of the steps from a busy block, a controller's initialisation leaves SEQ, a
polling state moves to no idle one, and DONE remains. -/
theorem awaitClickAccepted : Obligations.AwaitClickAccepted := by
  refine ⟨fun s hinit hidle => exec_awaitClick_accepted hinit hidle, fun s t h hready => ?_,
    fun s t h hreset hbusy hready => ?_⟩
  · have hidle : s.seq = .idle := by simpa [State.ready] using hready
    obtain ⟨-, rfl⟩ := (withInit_next _).1 ((execAwaitClick_of_idle hidle).symm.trans h)
    rfl
  · have hbusy : s.seq ≠ .idle := by simpa [State.ready] using hbusy
    have hidle : t.seq = .idle := by simpa [State.ready] using hready
    rcases step_moves h with ⟨hp, -⟩ | ⟨-, rfl⟩ | ⟨-, ⟨hseq, -⟩ | ⟨-, rfl⟩ | ⟨hseq, -⟩⟩
    · exact absurd hp hreset
    · exact absurd hidle hbusy
    · exact absurd hseq hbusy
    · rw [pollStep_seq] at hidle
      exact absurd hidle (Seq.after_ne_idle hbusy)
    · exact hseq

/-! The transition table (R102). -/

/-- Settles O40: SEQ_IDLE stays idle or accepts a click, a polling state moves as its word says, DONE ends in IDLE. -/
theorem sequencerOnlyMovesForward : Obligations.SequencerOnlyMovesForward := by
  intro s t h hquiet
  rcases step_moves h with ⟨hp, -⟩ | ⟨hp, -⟩ | ⟨-, ⟨hseq, u, hu, rfl⟩ | ⟨hq, rfl⟩ | ⟨hseq, rfl⟩⟩
  · cases hquiet.symm.trans hp
  · cases hquiet.symm.trans hp
  · rcases execSeqIdle_cases hu with rfl | ⟨-, -, -, rfl⟩ | ⟨-, -, -, rfl⟩
    · simp [hseq, seqMayFollow]
    · simp [hseq, seqMayFollow]
    · simp [hseq, seqMayFollow, acceptAwaitClick]
  · rw [pollStep_seq]
    exact Seq.mayFollow_after hq
  · rw [hseq]
    rfl

/-- Settles O39: the idle cells by the code on the port, a polling state's cells by the kind of its word, and DONE. -/
theorem transitionTable : Obligations.TransitionTable := by
  intro s hinit hquiet
  obtain ⟨k, hk⟩ := (pollWord_shape s).exists_kind
  have hzero : pollWord s = 0#32 ↔ k = .noneKind := by simp [← kindOf_eq_noneKind_iff, hk]
  cases hseq : s.seq with
  | idle =>
    have hcodes : ∀ c : BitVec 2, (c = 0b00#2 ∨ c = 0b11#2) ∨ c = 0b01#2 ∨ c = 0b10#2 := by decide
    rcases hcodes s.sample.cmd with hcmd | hcmd | hcmd
    · obtain ⟨-, hstep⟩ := noCommandChangesNothing.2 s hseq hcmd hquiet
      refine ⟨_, hstep, ?_⟩
      rcases hcmd with hcmd | hcmd <;> simp [hseq, hcmd]
    · refine ⟨_, step_of_readEvent hseq hinit hquiet hcmd, ?_⟩
      simp [hseq, hcmd, readEvent, afterPoll, polls]
    · refine ⟨_, step_of_awaitClick hseq hinit hquiet hcmd, ?_⟩
      simp [hcmd, acceptAwaitClick, polls]
  | drain1 | awaitStart | awaitEnd | drain2 =>
    refine ⟨pollStep s, step_of_polling (by rw [hseq]; rfl) hinit hquiet, ?_⟩
    cases k <;> simp [hseq, hk, hzero, Seq.after, Seq.captured]
  | done =>
    refine ⟨_, step_of_done hseq hquiet, ?_⟩
    simp [doneStep, polls]

/-- DONE responds R and makes no poll (R101). -/
@[simp] theorem doneStep_responses (s : State) : responses (doneStep s).history = responses s.history ++ [s.r] := by
  simp [responses]

@[simp] theorem doneStep_polls (s : State) : polls (doneStep s).history = polls s.history := by
  simp [polls]

/-! The invariants of R and of the responses (R52, R108). -/

/-- SEQ is past AWAIT_END after a poll only if it was so before, or if AWAIT_END polled an End word (R99). -/
theorem Seq.pastEnd_of_after {q : Seq} {w : EventWord} (h : q.after w = .drain2 ∨ q.after w = .done) :
    (q = .drain2 ∨ q = .done) ∨ (q = .awaitEnd ∧ kindOf w = some .endKind) := by
  cases q with
  | drain2 => exact .inl (.inl rfl)
  | done => exact .inl (.inr rfl)
  | idle => simp [Seq.after] at h
  | drain1 | awaitStart =>
    rw [Seq.after] at h
    split at h <;> simp at h
  | awaitEnd =>
    rw [Seq.after] at h
    split at h
    case isTrue hend => exact .inr ⟨rfl, hend⟩
    case isFalse => simp at h

/-- The step of a polling state keeps an End word in R: it captures one or leaves R (R99, R100). -/
theorem pollStep_endCaptured {s : State} (hs : EndCaptured s) : EndCaptured (pollStep s) := by
  intro hpast
  rw [pollStep_seq] at hpast
  rw [pollStep_r]
  rcases Seq.pastEnd_of_after hpast with hbefore | ⟨hseq, hend⟩
  · rw [Seq.captured_of_ne (by rcases hbefore with h | h <;> simp [h])]
    exact hs hbefore
  · rw [Seq.captured, if_pos ⟨hseq, hend⟩]
    exact (pollWord_shape s).isEndWord hend

/-- Nothing is captured before AWAIT_END is left (R108). -/
theorem endCaptured_of_early {s : State} (h : s.seq = .idle ∨ s.seq = .drain1) : EndCaptured s := by
  rintro (hpast | hpast)
  · simp [hpast] at h
  · simp [hpast] at h

section responses

variable {s t : State} {w : EventWord}

/-- A step that gives no response keeps the responses' shapes. -/
theorem responsesShaped_of_silent (hs : ResponsesShaped s) (hport : t.response = none)
    (hhistory : responses t.history = responses s.history) : ResponsesShaped t :=
  ⟨hhistory ▸ hs.1, fun w hw => by simp [hport] at hw⟩

/-- A step that responds a word of one of the four shapes keeps the responses' shapes. -/
theorem responsesShaped_of_response (hs : ResponsesShaped s) (hw : IsEventWord w) (hport : t.response = some w)
    (hhistory : responses t.history = responses s.history ++ [w]) : ResponsesShaped t := by
  refine ⟨fun v hv => ?_, fun v hv => ?_⟩
  · rw [hhistory, List.mem_append, List.mem_singleton] at hv
    rcases hv with hv | rfl
    · exact hs.1 v hv
    · exact hw
  · obtain rfl : w = v := Option.some.inj (hport.symm.trans hv)
    exact hw

end responses

/-- SEQ_IDLE keeps both: it leaves no state past AWAIT_END, and READ_EVENT responds its poll's word (R88, R92). -/
theorem execSeqIdle_endCaptured_responsesShaped {s u : State} (hs : ResponsesShaped s) (hseq : s.seq = .idle)
    (hport : s.response = none) (h : execSeqIdle s = .next u) : EndCaptured u ∧ ResponsesShaped u := by
  rcases execSeqIdle_cases h with rfl | ⟨-, -, -, rfl⟩ | ⟨-, -, -, rfl⟩
  · exact ⟨endCaptured_of_early (.inl hseq), hs⟩
  · refine ⟨endCaptured_of_early (.inl (by simp [hseq])), ?_⟩
    exact responsesShaped_of_response hs (pollWord_shape _) rfl (by simp [responses])
  · exact ⟨endCaptured_of_early (.inr rfl), responsesShaped_of_silent hs hport (by simp [responses])⟩

/-- Settles O47: a polling step captures no word but an End word and responds nothing, so that DONE, which responds R, responds
an End word; an idle step responds a poll's word. -/
theorem stepKeepsEndCapturedAndResponsesShaped : Obligations.StepKeepsEndCapturedAndResponsesShaped := by
  refine ⟨fun s t ⟨hend, hshaped⟩ h => ?_, fun s t hend hseq hquiet h => ?_⟩
  · rcases step_moves h with ⟨-, rfl⟩ | ⟨-, rfl⟩ | ⟨-, ⟨hseq, u, hu, rfl⟩ | ⟨-, rfl⟩ | ⟨hseq, rfl⟩⟩
    · obtain ⟨-, hend', hshaped', -⟩ := resetMeetsInvariants
      exact ⟨hend', hshaped'⟩
    · exact ⟨hend, responsesShaped_of_silent hshaped rfl rfl⟩
    · exact execSeqIdle_endCaptured_responsesShaped (s := s.takeResponse) (u := u)
        (responsesShaped_of_silent hshaped rfl rfl) hseq rfl hu
    · exact ⟨pollStep_endCaptured hend,
        responsesShaped_of_silent hshaped (pollStep_response s) (pollStep_responses s)⟩
    · obtain ⟨hshape, -⟩ := (hend (.inr hseq)).shape
      exact ⟨endCaptured_of_early (.inl rfl), responsesShaped_of_response hshaped hshape rfl (by simp [responses])⟩
  · obtain rfl := Host.Outcome.next.inj ((step_of_done hseq hquiet).symm.trans h)
    have hword : IsEndWord s.r := hend (.inr hseq)
    obtain ⟨-, hzero, hkind⟩ := hword.shape
    exact ⟨s.r, rfl, hword, hzero, hkind⟩

/-! Runs of polling steps (R103, R104): `pollStep^[n] s` against the words of the polls. -/

/-- The first of a number of steps. -/
theorem run_succ {s t : State} (n : Nat) (h : step s = .next t) : run (n + 1) s = run n t := by
  have hstep : core.step s = .next t := h
  simp only [run, Host.Core.run, hstep]
  rfl

/-- On a quiet platform the step at hand has no platform event, and the platform is quiet after it. -/
theorem quietPlatform_tail {s t : State} (h : QuietPlatform s) (hpins : t.pins = s.pins.tail) :
    s.sample.platform = .quiet ∧ QuietPlatform t := by
  refine ⟨?_, fun p hp => h p (List.mem_of_mem_tail (hpins ▸ hp))⟩
  unfold State.sample
  split
  case h_1 p rest hcons => exact h p (by simp [hcons])
  case h_2 => rfl

section runs

variable {s : State}

/-- The k-th polling step makes the poll with the k-th word, whatever happened to SEQ, R and the ports (R94). -/
theorem iterate_samePollInputs (s : State) (k : Nat) : SamePollInputs (afterPoll^[k] s) (pollStep^[k] s) := by
  induction k with
  | zero => exact ⟨rfl, rfl, rfl, rfl⟩
  | succ k ih =>
    rw [Function.iterate_succ_apply', Function.iterate_succ_apply']
    have htaken : SamePollInputs (afterPoll^[k] s) (pollStep^[k] s).takeResponse := ih
    exact htaken.poll.2

@[simp] theorem pollWord_iterate (s : State) (k : Nat) : pollWord (pollStep^[k] s) = wordAt k s :=
  (iterate_samePollInputs s k).poll.1.symm

/-- SEQ and R after one more polling step. -/
theorem iterate_succ_seq_r (s : State) (k : Nat) :
    (pollStep^[k + 1] s).seq = (pollStep^[k] s).seq.after (wordAt k s) ∧
      (pollStep^[k + 1] s).r = (pollStep^[k] s).seq.captured (pollStep^[k] s).r (wordAt k s) := by
  rw [Function.iterate_succ_apply']
  simp

/-- What n polling steps add to the history, seen in polls and responses. -/
theorem iterate_history (s : State) (n : Nat) :
    polls (pollStep^[n] s).history = polls s.history + n ∧
      responses (pollStep^[n] s).history = responses s.history := by
  induction n with
  | zero => exact ⟨rfl, rfl⟩
  | succ n ih =>
    obtain ⟨hpolls, hresponses⟩ := ih
    rw [Function.iterate_succ_apply']
    simp [hpolls, hresponses, Nat.add_assoc]

/-- Polling steps give no response. -/
theorem iterate_response (h : s.response = none) (n : Nat) : (pollStep^[n] s).response = none := by
  cases n with
  | zero => exact h
  | succ n => rw [Function.iterate_succ_apply', pollStep_response]

/-- Polling steps keep the launch premise and a quiet platform. -/
theorem iterate_quiet (hinit : s.initDone = true) (hplat : QuietPlatform s) (n : Nat) :
    (pollStep^[n] s).initDone = true ∧ QuietPlatform (pollStep^[n] s) := by
  induction n with
  | zero => exact ⟨hinit, hplat⟩
  | succ n ih =>
    obtain ⟨hinit', hplat'⟩ := ih
    rw [Function.iterate_succ_apply']
    exact ⟨(pollStep_initDone _).trans hinit', (quietPlatform_tail hplat' (pollStep_pins _)).2⟩

/-- Where SEQ polls after n steps it did so after fewer: a polling state is never entered from IDLE or DONE by a poll. -/
theorem polling_of_le {k n : Nat} (hkn : k ≤ n) (h : (pollStep^[n] s).seq.polling = true) :
    (pollStep^[k] s).seq.polling = true := by
  induction n, hkn using Nat.le_induction with
  | base => exact h
  | succ n _ ih =>
    rw [(iterate_succ_seq_r s n).1] at h
    exact ih (Seq.polling_of_after h)

/-- As long as SEQ polls, a run is a run of polling steps. -/
theorem run_of_polling (hinit : s.initDone = true) (hplat : QuietPlatform s) (m n : Nat)
    (h : ∀ k, k < n → (pollStep^[k] s).seq.polling = true) : run (m + n) s = run m (pollStep^[n] s) := by
  induction n generalizing s with
  | zero => rfl
  | succ n ih =>
    obtain ⟨hquiet, hplat'⟩ := quietPlatform_tail hplat (pollStep_pins s)
    rw [← Nat.add_assoc, run_succ _ (step_of_polling (s := s) (h 0 n.succ_pos) hinit hquiet)]
    exact ih ((pollStep_initDone s).trans hinit) hplat' fun k hk => h (k + 1) (Nat.succ_lt_succ hk)

/-- SEQ and R stay while no poll has the word by which the state is left (R103). -/
theorem iterate_stays {q : Seq} {m n : Nat} (hmn : m ≤ n) (hq : (pollStep^[m] s).seq = q)
    (hstay : ∀ k, m ≤ k → k < n → q.after (wordAt k s) = q) :
    (pollStep^[n] s).seq = q ∧ (pollStep^[n] s).r = (pollStep^[m] s).r := by
  induction n, hmn using Nat.le_induction with
  | base => exact ⟨hq, rfl⟩
  | succ n hmn ih =>
    obtain ⟨hseq, hr⟩ := ih fun k hmk hkn => hstay k hmk (by omega)
    have hn := hstay n hmn n.lt_succ_self
    obtain ⟨hseq', hr'⟩ := iterate_succ_seq_r s n
    rw [hseq', hr', hseq, Seq.captured_of_stays hn, hn]
    exact ⟨rfl, hr⟩

/-- SEQ stays up to the poll whose word moves it on, and R is captured with that word or stays too (R102). -/
theorem iterate_leaves {q q' : Seq} {m n : Nat} (hmn : m ≤ n) (hq : (pollStep^[m] s).seq = q)
    (hstay : ∀ k, m ≤ k → k < n → q.after (wordAt k s) = q) (hleave : q.after (wordAt n s) = q') :
    (pollStep^[n] s).seq = q ∧ (pollStep^[n + 1] s).seq = q' ∧
      (pollStep^[n + 1] s).r = q.captured (pollStep^[m] s).r (wordAt n s) := by
  obtain ⟨hseq, hr⟩ := iterate_stays hmn hq hstay
  obtain ⟨hseq', hr'⟩ := iterate_succ_seq_r s n
  rw [hseq', hr', hseq, hr, hleave]
  exact ⟨rfl, rfl, rfl⟩

/-- A run of polling steps alone. -/
theorem run_eq_iterate (hinit : s.initDone = true) (hplat : QuietPlatform s) (n : Nat)
    (h : ∀ k, k < n → (pollStep^[k] s).seq.polling = true) : run n s = .next (pollStep^[n] s) := by
  rw [← n.zero_add, run_of_polling hinit hplat 0 n h, n.zero_add]
  rfl

/-- A polling state waits for its own word (R103). -/
theorem run_stays {q : Seq} {n : Nat} (hinit : s.initDone = true) (hplat : QuietPlatform s) (hseq : s.seq = q)
    (hq : q.polling = true) (hstay : ∀ k, k < n → q.after (wordAt k s) = q) :
    ∃ t, run n s = .next t ∧ t.seq = s.seq ∧ t.r = s.r ∧ polls t.history = polls s.history + n ∧
      responses t.history = responses s.history := by
  subst hseq
  have hat {k : Nat} (hk : k ≤ n) := iterate_stays (s := s) (Nat.zero_le k) rfl fun i _ hik => hstay i (by omega)
  have hrun := run_eq_iterate hinit hplat n fun k hk => (hat hk.le).1 ▸ hq
  exact ⟨_, hrun, (hat le_rfl).1, (hat le_rfl).2, iterate_history s n⟩

end runs

/-- Settles O43: each state's hypothesis says that its words do not move SEQ. -/
theorem pollingStateWaitsForItsWord : Obligations.PollingStateWaitsForItsWord := by
  intro s n hinit hplat
  refine ⟨fun hseq hwords => ?_, fun hseq hwords => ?_, fun hseq hwords => ?_⟩
  · rcases hseq with hseq | hseq
    · exact run_stays hinit hplat hseq rfl fun k hk => if_neg (hwords k hk)
    · exact run_stays hinit hplat hseq rfl fun k hk => if_neg (hwords k hk)
  · exact run_stays hinit hplat hseq rfl fun k hk => if_neg (hwords k hk)
  · exact run_stays hinit hplat hseq rfl fun k hk => if_neg (hwords k hk)

/-- Settles O44: SEQ is in each of the four polling states up to its word, R has the word of poll c from AWAIT_END's last poll
on, and the step after poll d is DONE's. -/
theorem awaitClickRespondsOnce : Obligations.AwaitClickRespondsOnce := by
  intro s a b c d hinit hplat hseq hbefore_a ha hab hbefore_b hb hbc hbefore_c hc hcd hbefore_d hd
  obtain ⟨-, hstart, -⟩ := iterate_leaves (q' := .awaitStart) a.zero_le hseq
    (fun k _ hk => if_neg (hbefore_a k hk)) (if_pos ha)
  obtain ⟨-, hend, -⟩ := iterate_leaves (q' := .awaitEnd) hab hstart
    (fun k hak hkb => if_neg (hbefore_b k hak hkb)) (if_pos hb)
  obtain ⟨-, hdrain2, hcaptured⟩ := iterate_leaves (q' := .drain2) hbc hend
    (fun k hbk hkc => if_neg (hbefore_c k hbk hkc)) (if_pos hc)
  obtain ⟨hlast, hdone, hkept⟩ := iterate_leaves (q' := .done) hcd hdrain2
    (fun k hck hkd => if_neg (hbefore_d k hck hkd)) (if_pos hd)
  have hr : (pollStep^[d + 1] s).r = wordAt c s := by
    calc (pollStep^[d + 1] s).r
      _ = (pollStep^[c + 1] s).r := hkept.trans (Seq.captured_of_ne (by simp))
      _ = wordAt c s := hcaptured.trans (if_pos ⟨rfl, hc⟩)
  have hpolling (k : Nat) (hk : k < d + 1) : (pollStep^[k] s).seq.polling = true :=
    polling_of_le (Nat.le_of_lt_succ hk) (by rw [hlast]; rfl)
  refine ⟨fun k hkd => ⟨pollStep^[k + 1] s, ?_, ?_, (iterate_history s (k + 1)).2⟩, ?_⟩
  · exact run_eq_iterate hinit hplat (k + 1) fun i hi => hpolling i (by omega)
  · have hbusy : (pollStep^[k + 1] s).seq ≠ .idle := by
      rw [(iterate_succ_seq_r s k).1]
      exact Seq.after_ne_idle (Seq.ne_idle_of_polling (hpolling k (by omega)))
    simpa [State.ready] using hbusy
  · obtain ⟨-, hplat'⟩ := iterate_quiet hinit hplat (d + 1)
    obtain ⟨hquiet, -⟩ := quietPlatform_tail hplat' (pollStep_pins _)
    obtain ⟨hpolls, hresponses⟩ := iterate_history s (d + 1)
    refine ⟨(doneStep (pollStep^[d + 1] s).takeResponse).advance, ?_, rfl, congrArg some hr, ?_, ?_⟩
    · rw [show d + 2 = 1 + (d + 1) by omega, run_of_polling hinit hplat 1 (d + 1) hpolling]
      exact run_succ 0 (step_of_done hdone hquiet)
    · exact (doneStep_responses _).trans (by rw [← hr, ← hresponses]; rfl)
    · exact (doneStep_polls _).trans hpolls

/-! A bus that fails every write (R103, R117). -/

/-- A poll whose write fails: the word is 0, PREV stays, the one transfer is the failed write (R93). -/
theorem pollStep_writeFail {s : State} (hw : s.writeAnswer = .fail) :
    pollWord s = 0#32 ∧ (pollStep s).prev = s.prev ∧
      transfers (pollStep s).history = transfers s.history ++
        [.write Config.touchAddress [0x00#8] Config.busTimeout .fail] := by
  obtain ⟨-, hprev, -, -, hhistory⟩ := poll_line_writeFail (s := s.takeResponse) hw
  obtain ⟨hword, -⟩ := poll_line_writeFail hw
  refine ⟨hword, hprev, ?_⟩
  change transfers (poll s.takeResponse).history = _
  simp [hhistory, transfers, regSelectEntry]

/-- Each poll uses one write answer (R61). -/
theorem iterate_writeAnswers (s : State) (k : Nat) : (pollStep^[k] s).writeAnswers = s.writeAnswers.drop k := by
  induction k with
  | zero => rfl
  | succ k ih =>
    rw [Function.iterate_succ_apply', pollStep_writeAnswers, ih, List.tail_drop]

/-- The k-th of n scripted failures is the answer to the k-th poll's write. -/
theorem iterate_writeAnswer_fail {s : State} {n k : Nat} {rest : List WriteAnswer}
    (hw : s.writeAnswers = List.replicate n .fail ++ rest) (hk : k < n) : (pollStep^[k] s).writeAnswer = .fail := by
  obtain ⟨m, rfl⟩ : ∃ m, n = k + (m + 1) := ⟨n - k - 1, by omega⟩
  have hanswers : (pollStep^[k] s).writeAnswers = .fail :: (List.replicate m .fail ++ rest) := by
    rw [iterate_writeAnswers, hw, List.replicate_add, List.append_assoc, List.drop_left' (List.length_replicate ..)]
    rfl
  simp only [State.writeAnswer, hanswers]

/-- On a dead bus DRAIN1 is left by its first poll and AWAIT_START not at all; PREV and R stay, the transfers are failed
writes (R103). -/
theorem iterate_deadBus {s : State} {n k : Nat} {rest : List WriteAnswer} (hseq : s.seq = .drain1)
    (hw : s.writeAnswers = List.replicate n .fail ++ rest) (hk : k ≤ n) :
    (pollStep^[k] s).seq = (if k = 0 then .drain1 else .awaitStart) ∧ (pollStep^[k] s).r = s.r ∧
      (pollStep^[k] s).prev = s.prev ∧
      transfers (pollStep^[k] s).history = transfers s.history ++
        List.replicate k (.write Config.touchAddress [0x00#8] Config.busTimeout .fail) := by
  induction k with
  | zero => simp [hseq]
  | succ k ih =>
    obtain ⟨hseq', hr, hprev, htransfers⟩ := ih (by omega)
    obtain ⟨hword, hprev', htransfers'⟩ := pollStep_writeFail (iterate_writeAnswer_fail hw hk)
    have hafter : (if k = 0 then Seq.drain1 else Seq.awaitStart).after 0#32 = .awaitStart := by
      split <;> rfl
    rw [Function.iterate_succ_apply', pollStep_seq, pollStep_r, hword, hprev', htransfers', hseq', hr, htransfers,
      hafter]
    exact ⟨rfl, Seq.captured_zero, hprev, by rw [List.append_assoc, ← List.replicate_succ']⟩

/-- On a dead bus n steps from DRAIN1 are n polls, none of which ends the wait. -/
theorem run_deadBus {s : State} {n : Nat} {rest : List WriteAnswer} (hinit : s.initDone = true)
    (hplat : QuietPlatform s) (hseq : s.seq = .drain1) (hport : s.response = none)
    (hw : s.writeAnswers = List.replicate n .fail ++ rest) :
    ∃ t, run n s = .next t ∧ t.seq = (if n = 0 then .drain1 else .awaitStart) ∧ t.response = none ∧
      t.prev = s.prev ∧ t.r = s.r ∧ responses t.history = responses s.history ∧
      transfers t.history = transfers s.history ++
        List.replicate n (.write Config.touchAddress [0x00#8] Config.busTimeout .fail) := by
  have hdead {k : Nat} (hk : k ≤ n) := iterate_deadBus hseq hw hk
  have hrun : run n s = .next (pollStep^[n] s) := by
    refine run_eq_iterate hinit hplat n fun k hk => ?_
    rw [(hdead hk.le).1]
    split <;> rfl
  obtain ⟨hseq', hr, hprev, htransfers⟩ := hdead le_rfl
  exact ⟨_, hrun, hseq', iterate_response hport n, hprev, hr, (iterate_history s n).2, htransfers⟩

/-- Settles O42: the acceptance leaves DRAIN1 and R zero and makes no transfer; the polls then find a dead bus. -/
theorem deadBusNeverResponds : Obligations.DeadBusNeverResponds := by
  intro s n rest hinit hidle hcmd hplat hw
  obtain ⟨hquiet, hplat'⟩ := quietPlatform_tail (t := (acceptAwaitClick s.takeResponse).advance) hplat rfl
  have haccept := step_of_awaitClick hidle hinit hquiet hcmd
  obtain ⟨t, hrun, hseq, hport, hprev, hr, hresponses, htransfers⟩ :=
    run_deadBus (s := (acceptAwaitClick s.takeResponse).advance) hinit hplat' rfl rfl hw
  refine ⟨t, (run_succ n haccept).trans hrun, hseq, hport, hprev, hr, hresponses.trans ?_, htransfers.trans ?_⟩
  · simp [responses]
  · simp [transfers]

end Machine

/-! The steps of the busy states one by one (R97 to R101). -/

namespace BusySteps

open Machine

/-- Settles O34: SEQ_DRAIN1 answers `drain1Step`. -/
theorem firstDrainStep : Obligations.FirstDrainStep := by
  intro s hinit
  refine ⟨drain1Step s, withInit_of_init hinit _, rfl, ?_, ?_, poll_polls s⟩
  · simp
  · simp [SamePorts, drain1Step, afterPoll]

/-- Settles O35: SEQ_AWAIT_START answers `Machine.awaitStartStep`, and a word is of the kind Start by its tag. -/
theorem awaitStartStep : Obligations.AwaitStartStep := by
  intro s hinit
  refine ⟨Machine.awaitStartStep s, withInit_of_init hinit _, ?_, ?_, ?_, poll_polls s⟩
  · simp only [← kindOf_eq_startKind_iff]
    rfl
  · simp
  · simp [SamePorts, Machine.awaitStartStep, afterPoll]

/-- Settles O36: SEQ_AWAIT_END answers `Machine.awaitEndStep`, and the poll's word, which is one of the four shapes, is of
the kind End by its tag. -/
theorem awaitEndStep : Obligations.AwaitEndStep := by
  intro s hinit
  have hkind := (pollWord_shape s).kindOf_eq_endKind_iff
  refine ⟨Machine.awaitEndStep s, withInit_of_init hinit _, fun htag => ?_, fun htag => ?_, ?_, ?_⟩
  · exact awaitEndStep_of_end (hkind.2 htag)
  · have hstep := awaitEndStep_of_not_end fun h => hkind.1 h htag
    exact ⟨hstep, by simp [hstep]⟩
  · simp [SamePorts]
  · simp

/-- Settles O37: SEQ_DRAIN2 answers `drain2Step`. -/
theorem secondDrainStep : Obligations.SecondDrainStep := by
  intro s hinit
  refine ⟨drain2Step s, withInit_of_init hinit _, rfl, ?_, ?_, poll_polls s⟩
  · simp
  · simp [SamePorts, drain2Step, afterPoll]

/-- Settles O38: SEQ_DONE answers `doneStep`. -/
theorem doneStepResponds : Obligations.DoneStepResponds := fun _ => rfl

end BusySteps

end Sys2Proof
end

section
/-! SUPPORT. No fault (60_exceptions.md R110): an operation that the launch premise guards is refused at most, one that it does
not guard completes, and the step is one of these or a platform event. -/

namespace Sys2Proof.Machine

section operations
variable (s : State) (f : Fault)

/-- The launch premise is the only guard of an operation, and where it fails the operation is refused (U5). -/
theorem withInit_ne_fault (t : State) : withInit s t ≠ .fault f := by
  cases hinit : s.initDone with
  | true =>
    rw [withInit_of_init hinit]
    nofun
  | false =>
    rw [withInit_of_not_init hinit]
    nofun

/-- A stage run alone does not read an empty CUR, which would be the model's one fault (R12, R65; U1). -/
theorem withCur_ne_fault (stage : Packet → State → State) : withCur stage s ≠ .fault f := by
  obtain ⟨t, ht⟩ := withCur_completes stage s
  rw [ht]
  nofun

theorem execReadEvent_ne_fault : execReadEvent s ≠ .fault f := by
  unfold execReadEvent
  split
  · exact withInit_ne_fault s f _
  · nofun

theorem execAwaitClick_ne_fault : execAwaitClick s ≠ .fault f := by
  unfold execAwaitClick
  split
  · exact withInit_ne_fault s f _
  · nofun

/-- The four codes of the command port select two commands that do nothing and two that the launch premise guards (R42, R53). -/
theorem execSeqIdle_ne_fault : execSeqIdle s ≠ .fault f := by
  unfold execSeqIdle
  split
  · exact execReadEvent_ne_fault s f
  · split
    · exact execAwaitClick_ne_fault s f
    · split
      · nofun
      · nofun

/-- No operation faults, with or without the launch premise (R110). -/
theorem exec_ne_fault (i : Instr) : exec i s ≠ .fault f := by
  cases i with
  | cmdNone | cmdRsvd | pack | pktDup | evStart | evMove | evEnd | evNone | evwNone | evwStart | evwMove | evwEnd
  | seqDone => nofun
  | busRegsel | busRead7 | pollFrame | seqDrain1 | seqAwaitStart | seqAwaitEnd | seqDrain2 =>
    exact withInit_ne_fault s f _
  | dupFilter | decode => exact withCur_ne_fault s f _
  | readEvent => exact execReadEvent_ne_fault s f
  | awaitClick => exact execAwaitClick_ne_fault s f
  | seqIdle => exact execSeqIdle_ne_fault s f

end operations

/-- `mapNext` faults exactly when its argument does. -/
theorem mapNext_fault (g : State → State) (o : Host.Outcome State Fault Refusal) (f : Fault) :
    mapNext g o = .fault f ↔ o = .fault f := by
  cases o <;> simp [mapNext]

/-- The controller's initialisation takes the whole step (R127). -/
theorem step_of_controllerInit {s : State} (h : s.sample.platform = .controllerInit) :
    step s = .next s.controllerInit.advance := by
  simp only [step, h]

/-- No step faults: a platform event completes, and without one the step ends as the operation that SEQ selects (R110). -/
theorem step_ne_fault (s : State) (f : Fault) : step s ≠ .fault f := by
  cases hp : s.sample.platform with
  | blockReset =>
    rw [step_of_blockReset hp]
    nofun
  | controllerInit =>
    rw [step_of_controllerInit hp]
    nofun
  | quiet =>
    rw [step_of_quiet hp, ne_eq, mapNext_fault]
    exact exec_ne_fault s.takeResponse f s.seq.instr

/-- Settles O51: step and operations each end without a fault, and `exec_completes` gives the completion under the premise. -/
theorem stepNeverFaults : Obligations.StepNeverFaults :=
  ⟨step_ne_fault, fun i s f => exec_ne_fault s f i, fun i _ hinit => exec_completes i hinit⟩

end Sys2Proof.Machine
end

section
/-! SUPPORT. Reset (70_reset_and_hazards.md R126, R127): the controller's own reset as a step, and the first poll after the
block's reset, which compares the packet with a PREV of seven zero bytes. -/

namespace Sys2Proof.Machine

/-- Settles O13: the step answers `State.controllerInit`, which writes the launch premise and the response port alone. -/
theorem controllerInitKeepsBlock : Obligations.ControllerInitKeepsBlock := by
  intro s hinit
  refine ⟨s.controllerInit.advance, step_of_controllerInit hinit, ?_⟩
  simp [SameRegisters]

/-- A packet other than PREV is decoded, so the word of its poll is the word of its event (R72, R84). -/
theorem packetWord_of_ne {prev p : Packet} (hp : p ≠ prev) : packetWord prev p = p.event.word := if_neg hp

/-- Settles O54: the reset block is idle under the launch premise, so READ_EVENT answers `readEvent`; its poll reads the packet
and compares it with the zero PREV of reset. -/
theorem firstPacketAfterReset : Obligations.FirstPacketAfterReset := by
  intro p w r
  obtain ⟨hresponse, hprev, -, -, -⟩ := readEvent_line_read
    (s := { State.reset with writeAnswers := .ok :: w, readAnswers := .ok p :: r }) (p := p) rfl rfl
  refine ⟨_, exec_readEvent_accepted rfl rfl, hprev, fun hzero => ?_, fun hnew => ?_⟩
  · obtain ⟨hword, -⟩ := packet_of_duplicate hzero
    exact hresponse.trans (congrArg some hword)
  · exact hresponse.trans (congrArg some (packetWord_of_ne hnew))

end Sys2Proof.Machine
end
